-- ==== Sys2Proof/Word.lean ====
section
/-! DEFINITION. The word types of the Zurnel 7416 and the numberings of its records
(spec/00_scope.md, Conventions). -/

namespace Sys2Proof

/-- One byte of a frame or of a result (R180, R182). -/
abbrev Byte := BitVec 8

/-- A hired set's slot. Slot n of the manual (1 to 24) is `n - 1` here; slot value 0, "none", is
`Option.none` (R5). -/
abbrev SetSlot := Fin 24

/-- A feeder channel, 0 to 15 (R45). -/
abbrev Channel := Fin 16

/-- An account slot, 0 to 63 (R145). -/
abbrev AccountSlot := Fin 64

/-- A delivery position, 0 to 3 (R123). -/
abbrev PositionNo := Fin 4

/-- A supplier, 0 to 3 (R138). -/
abbrev SupplierNo := Fin 4

/-- A consumption curve, 0 to 5 (R24). -/
abbrev CurveNo := Fin 6

/-- A tariff band, 0 to 3 (R154). -/
abbrev Band := Fin 4

/-- An hour of day, 0 to 23 (R154). -/
abbrev Hour := Fin 24

end Sys2Proof
end

