-- ==== Sys2Proof/Syntax.lean ====
section
/-! DEFINITION. The commands and events the part takes: one constructor of `Instr` for each row of
spec/opcode_table.json. Parameters of a command frame are bit vectors of the widths R192 gives; field
events name their line. -/

namespace Sys2Proof

/-- A contactor side of a feeder (R46). -/
inductive Side where
  | A
  | B
deriving DecidableEq, Repr

/-- The side that is not this one. -/
def Side.other : Side → Side
  | .A => .B
  | .B => .A

/-- One figure for each side of a feeder. -/
structure PerSide (α : Type) where
  a : α
  b : α
deriving DecidableEq, Repr

/-- The figure of one side. -/
def PerSide.get {α : Type} (p : PerSide α) : Side → α
  | .A => p.a
  | .B => p.b

/-- Writes the figure of one side. -/
def PerSide.set {α : Type} (p : PerSide α) (d : Side) (x : α) : PerSide α :=
  match d with
  | .A => { p with a := x }
  | .B => { p with b := x }

/-- The three configuration straps (R177). -/
structure Straps where
  feeders8 : Bool
  fuelFine : Bool
  fbLow : Bool
deriving DecidableEq, Repr

/-- Levels of the input pins that the part reads as levels (00_scope.md, Signal summary). A feedback or
supply line is `true` while it is high; a nozzle line is `true` while it is active. -/
structure Pins where
  feedback : PerSide (Vector Bool 16)
  nozzle : Vector Bool 4
  supplyOk : Bool
  resetN : Bool
deriving DecidableEq, Repr

/-- A raw frame, from a fall of SEL_N to its rise (R180, R181): the bits sampled on SDI, one at each rising
edge of SCLK, the first sampled first, and whether the port took the frame from its fall to its rise (R173,
R175). -/
structure Frame where
  bits : List Bool
  taken : Bool
deriving DecidableEq, Repr

/-- The commands and events of spec/opcode_table.json, in the table's order. -/
inductive Instr where
  /-- Reading frame 01h in which `bits` bits were clocked after byte 1 (R183). -/
  | fetchResult (bits : Nat)
  /-- The rise of SEL_N at the end of reading frame 02h in which `bits` bits were clocked after byte 1 (R187). -/
  | readAttention (bits : Nat)
  /-- The end of byte 1 of reading frame 02h (R187). -/
  | snapshot
  | setAttentionMask (mask : BitVec 16)
  | identify
  | restart
  /-- A frame as it stands on the wire, to be judged at the rise of SEL_N (R181). -/
  | unknownCommand (frame : Frame)
  | setClock (minute : BitVec 24)
  | queryClock
  | hireSet (unit : BitVec 32) (rating : BitVec 16) (capacity : BitVec 32) (curve : Byte)
      (minHire : BitVec 16) (dayRate : BitVec 32) (tank : BitVec 32)
  | querySet (slot : Byte) (view : Option Byte)
  | findSet (unit : BitVec 32)
  | reportRun (slot : Byte) (report : Byte)
  | amendSet (slot : Byte) (curve : Byte) (reserve : BitVec 32) (loadLimit : BitVec 16) (idle : Byte)
      (relief : Byte) (window : Byte)
  | dipSet (slot : Byte) (reading : BitVec 32)
  | offHireSet (slot : Byte)
  | beginCurve (curve : Byte)
  | loadCurvePoint (value : BitVec 32)
  | queryCurve (curve : Byte)
  | bindSide (channel : Byte) (side : Byte) (slot : Byte)
  | assignFeederAccount (channel : Byte) (account : Byte)
  | setFeederParameters (channel : Byte) (weight : Byte) (deadTime : Byte)
  | openFeeder (channel : Byte)
  | reconcileFeeder (channel : Byte)
  | queryFeeder (channel : Byte)
  | enqueueOrder (channel : Byte) (side : Byte) (startMin : BitVec 24) (endMin : BitVec 24)
  | cancelOrder (channel : Byte)
  | queryQueue
  | querySequencer
  | setTransferParameters (openTimeout : BitVec 16) (closeTimeout : BitVec 16) (minRuntime : BitVec 16)
  | registerSupplier (supplier : Byte) (docket : BitVec 24)
  | querySupplier (supplier : Byte)
  | openTicket (position : Byte) (slot : Byte) (supplier : Byte) (ordered : BitVec 32)
  | setPermitMode (position : Byte) (mode : Byte)
  | closeTicket (position : Byte) (docket : BitVec 24)
  | cancelTicket (position : Byte)
  | queryPosition (position : Byte)
  | openAccount (code : BitVec 32) (label : List Byte)
  | queryAccount (slot : Byte)
  | findAccount (code : BitVec 32)
  | settleAccount (slot : Byte)
  | fetchStatement (slot : Byte)
  | releaseStatement (slot : Byte)
  | retireAccount (slot : Byte)
  | placeHold (slot : Byte)
  | releaseAllHolds
  | setBandRate (band : Byte) (rate : BitVec 16)
  | setFuelPrice (price : BitVec 16)
  | setScheduleSlot (hour : Byte) (band : Byte)
  | queryTariff
  /-- A change of MTRn from inactive to active (R50). -/
  | energyPulse (channel : Channel)
  /-- A change of FB_A or FB_B of a channel to the level given (R62). -/
  | feedbackChange (channel : Channel) (side : Side) (level : Bool)
  | disagreementTimerExpiry (channel : Channel) (side : Side)
  | openCheckDeadline (channel : Channel)
  | intervalExpiry (slot : SetSlot)
  | openTimeout
  | deadTimeExpiry
  | closeTimeout
  | releaseDeadline
  | fallbackTimeout
  /-- A change of FLOWn from inactive to active (R125). -/
  | fuelPulse (position : PositionNo)
  /-- A change of NOZZLEn from inactive to active (R125). -/
  | nozzleLift (position : PositionNo)
  /-- A change of NOZZLEn from active to inactive (R125). -/
  | hangUp (position : PositionNo)
  | siteSecondAdvance
  | supplyOkFall
  | supplyOkRise
  | resumeTimerExpiry
  | resetNFall
  /-- A rise of RESET_N with the strap pins at the levels given (R176, R177). -/
  | resetNRise (straps : Straps)
  /-- Powering of the retained domain with the strap pins and the input pins at the levels given (R179). -/
  | coldStart (straps : Straps) (pins : Pins)
deriving DecidableEq, Repr

end Sys2Proof
end

