-- ==== Sys2Proof/WellFormed.lean ====
section
/-! DEFINITION. Which terms of `Instr` stand for something the wire can carry. Widths and line numbers
are in the types, and a raw frame may hold any bits; what is left is the length of an account label. -/

namespace Sys2Proof

/-- Open Account carries 0 to 16 label bytes (R149); every other command is well formed by its type. -/
def Instr.wf : Instr → Bool
  | .openAccount _ label => label.length ≤ 16
  | _ => true

end Sys2Proof
end

