-- ==== Sys2Proof/Decode.lean ====
section
/-! DEFINITION. Frames: how the part assembles the bits of a frame into bytes (R180), judges the frame and
reads its parameters (R181, R192), and the frame of a command, written from the same table.
spec/opcode_table.json gives no row any bits, so `decodeTableWord` spells no command. -/

namespace Sys2Proof

/-- A byte's bits in the order they are sent, most-significant bit first (R180). -/
def byteBits (b : Byte) : List Bool :=
  [b.getMsbD 0, b.getMsbD 1, b.getMsbD 2, b.getMsbD 3, b.getMsbD 4, b.getMsbD 5, b.getMsbD 6, b.getMsbD 7]

/-- The whole bytes that sampled bits make: each eight bits one byte, the first sampled its most-significant
bit; a last part byte makes none (R180). -/
def assemble : List Bool → List Byte
  | b0 :: b1 :: b2 :: b3 :: b4 :: b5 :: b6 :: b7 :: rest =>
    BitVec.ofBoolListBE [b0, b1, b2, b3, b4, b5, b6, b7] :: assemble rest
  | _ => []

/-- The whole bytes of a frame (R180). -/
def Frame.bytes (f : Frame) : List Byte := assemble f.bits

/-- The number of bits of a last part byte (R180). -/
def Frame.tail (f : Frame) : Nat := f.bits.length % 8

/-- A two-byte field, most-significant byte first (R1). -/
def word16 (a b : Byte) : BitVec 16 := a ++ b

/-- A three-byte field (R1). -/
def word24 (a b c : Byte) : BitVec 24 := a ++ b ++ c

/-- A four-byte field (R1). -/
def word32 (a b c d : Byte) : BitVec 32 := a ++ b ++ c ++ d

/-- The bytes of a two-byte field (R1). -/
def bytes16 (x : BitVec 16) : List Byte := [x.extractLsb' 8 8, x.extractLsb' 0 8]

/-- The bytes of a three-byte field (R1). -/
def bytes24 (x : BitVec 24) : List Byte := [x.extractLsb' 16 8, x.extractLsb' 8 8, x.extractLsb' 0 8]

/-- The bytes of a four-byte field (R1). -/
def bytes32 (x : BitVec 32) : List Byte :=
  [x.extractLsb' 24 8, x.extractLsb' 16 8, x.extractLsb' 8 8, x.extractLsb' 0 8]

/-- The command codes of R192, each with the parameter counts its command takes. -/
def commandTable : List (Nat × List Nat) :=
  [(0x01, [0]), (0x02, [0]), (0x03, [2]), (0x04, [0]), (0x05, [0]), (0x06, [3]), (0x07, [0]), (0x10, [21]),
   (0x11, [1, 2]), (0x12, [4]), (0x13, [2]), (0x14, [11]), (0x15, [5]), (0x16, [1]), (0x18, [1]),
   (0x19, [4]), (0x1A, [1]), (0x20, [3]), (0x21, [2]), (0x22, [3]), (0x23, [1]), (0x24, [1]), (0x25, [1]),
   (0x30, [8]), (0x31, [1]), (0x32, [0]), (0x33, [0]), (0x34, [6]), (0x40, [4]), (0x41, [1]), (0x42, [7]),
   (0x43, [2]), (0x44, [4]), (0x45, [1]), (0x46, [1]),
   (0x50, [4, 5, 6, 7, 8, 9, 10, 11, 12, 13, 14, 15, 16, 17, 18, 19, 20]), (0x51, [1]), (0x52, [4]),
   (0x53, [1]), (0x54, [1]), (0x55, [1]), (0x56, [1]), (0x57, [1]), (0x58, [0]), (0x59, [3]), (0x5A, [2]),
   (0x5B, [2]), (0x5C, [0])]

/-- The counts a code's command takes, or none for a code that is not in the table (R181). -/
def countsOf (code : Nat) : Option (List Nat) := commandTable.lookup code

/-- Reads the parameters of a command frame at the widths and in the order of R192. -/
def parse (code : Nat) (p : List Byte) : Option Instr :=
  match code with
  | 0x03 =>
    match p with
    | [x0, x1] => some (.setAttentionMask (word16 x0 x1))
    | _ => none
  | 0x04 =>
    match p with
    | [] => some .identify
    | _ => none
  | 0x05 =>
    match p with
    | [] => some .restart
    | _ => none
  | 0x06 =>
    match p with
    | [x0, x1, x2] => some (.setClock (word24 x0 x1 x2))
    | _ => none
  | 0x07 =>
    match p with
    | [] => some .queryClock
    | _ => none
  | 0x10 =>
    match p with
    | [x0, x1, x2, x3, x4, x5, x6, x7, x8, x9, x10, x11, x12, x13, x14, x15, x16, x17, x18, x19, x20] =>
      some (.hireSet (word32 x0 x1 x2 x3) (word16 x4 x5) (word32 x6 x7 x8 x9) x10
        (word16 x11 x12) (word32 x13 x14 x15 x16) (word32 x17 x18 x19 x20))
    | _ => none
  | 0x11 =>
    match p with
    | [s] => some (.querySet s none)
    | [s, v] => some (.querySet s (some v))
    | _ => none
  | 0x12 =>
    match p with
    | [x0, x1, x2, x3] => some (.findSet (word32 x0 x1 x2 x3))
    | _ => none
  | 0x13 =>
    match p with
    | [x0, x1] => some (.reportRun x0 x1)
    | _ => none
  | 0x14 =>
    match p with
    | [x0, x1, x2, x3, x4, x5, x6, x7, x8, x9, x10] => some (.amendSet x0 x1 (word32 x2 x3 x4 x5) (word16 x6 x7) x8 x9 x10)
    | _ => none
  | 0x15 =>
    match p with
    | [x0, x1, x2, x3, x4] => some (.dipSet x0 (word32 x1 x2 x3 x4))
    | _ => none
  | 0x16 =>
    match p with
    | [x0] => some (.offHireSet x0)
    | _ => none
  | 0x18 =>
    match p with
    | [x0] => some (.beginCurve x0)
    | _ => none
  | 0x19 =>
    match p with
    | [x0, x1, x2, x3] => some (.loadCurvePoint (word32 x0 x1 x2 x3))
    | _ => none
  | 0x1A =>
    match p with
    | [x0] => some (.queryCurve x0)
    | _ => none
  | 0x20 =>
    match p with
    | [x0, x1, x2] => some (.bindSide x0 x1 x2)
    | _ => none
  | 0x21 =>
    match p with
    | [x0, x1] => some (.assignFeederAccount x0 x1)
    | _ => none
  | 0x22 =>
    match p with
    | [x0, x1, x2] => some (.setFeederParameters x0 x1 x2)
    | _ => none
  | 0x23 =>
    match p with
    | [x0] => some (.openFeeder x0)
    | _ => none
  | 0x24 =>
    match p with
    | [x0] => some (.reconcileFeeder x0)
    | _ => none
  | 0x25 =>
    match p with
    | [x0] => some (.queryFeeder x0)
    | _ => none
  | 0x30 =>
    match p with
    | [x0, x1, x2, x3, x4, x5, x6, x7] => some (.enqueueOrder x0 x1 (word24 x2 x3 x4) (word24 x5 x6 x7))
    | _ => none
  | 0x31 =>
    match p with
    | [x0] => some (.cancelOrder x0)
    | _ => none
  | 0x32 =>
    match p with
    | [] => some .queryQueue
    | _ => none
  | 0x33 =>
    match p with
    | [] => some .querySequencer
    | _ => none
  | 0x34 =>
    match p with
    | [x0, x1, x2, x3, x4, x5] => some (.setTransferParameters (word16 x0 x1) (word16 x2 x3) (word16 x4 x5))
    | _ => none
  | 0x40 =>
    match p with
    | [x0, x1, x2, x3] => some (.registerSupplier x0 (word24 x1 x2 x3))
    | _ => none
  | 0x41 =>
    match p with
    | [x0] => some (.querySupplier x0)
    | _ => none
  | 0x42 =>
    match p with
    | [x0, x1, x2, x3, x4, x5, x6] => some (.openTicket x0 x1 x2 (word32 x3 x4 x5 x6))
    | _ => none
  | 0x43 =>
    match p with
    | [x0, x1] => some (.setPermitMode x0 x1)
    | _ => none
  | 0x44 =>
    match p with
    | [x0, x1, x2, x3] => some (.closeTicket x0 (word24 x1 x2 x3))
    | _ => none
  | 0x45 =>
    match p with
    | [x0] => some (.cancelTicket x0)
    | _ => none
  | 0x46 =>
    match p with
    | [x0] => some (.queryPosition x0)
    | _ => none
  | 0x50 =>
    match p with
    | a :: b :: c :: d :: label => some (.openAccount (word32 a b c d) label)
    | _ => none
  | 0x51 =>
    match p with
    | [x0] => some (.queryAccount x0)
    | _ => none
  | 0x52 =>
    match p with
    | [x0, x1, x2, x3] => some (.findAccount (word32 x0 x1 x2 x3))
    | _ => none
  | 0x53 =>
    match p with
    | [x0] => some (.settleAccount x0)
    | _ => none
  | 0x54 =>
    match p with
    | [x0] => some (.fetchStatement x0)
    | _ => none
  | 0x55 =>
    match p with
    | [x0] => some (.releaseStatement x0)
    | _ => none
  | 0x56 =>
    match p with
    | [x0] => some (.retireAccount x0)
    | _ => none
  | 0x57 =>
    match p with
    | [x0] => some (.placeHold x0)
    | _ => none
  | 0x58 =>
    match p with
    | [] => some .releaseAllHolds
    | _ => none
  | 0x59 =>
    match p with
    | [x0, x1, x2] => some (.setBandRate x0 (word16 x1 x2))
    | _ => none
  | 0x5A =>
    match p with
    | [x0, x1] => some (.setFuelPrice (word16 x0 x1))
    | _ => none
  | 0x5B =>
    match p with
    | [x0, x1] => some (.setScheduleSlot x0 x1)
    | _ => none
  | 0x5C =>
    match p with
    | [] => some .queryTariff
    | _ => none
  | _ => none

/-- What the part finds at the rise of SEL_N (R181). -/
inductive Verdict where
  | ignored
  | unknown
  | length
  | carryOut (c : Instr)
deriving DecidableEq, Repr

/-- Steps 4 to 6 of R181 for a frame of a defined code with a whole count byte `n`; `tail` is the bits of
a last part byte. Codes 01h and 02h are the reading frames of R180. -/
def judgeCount (code n : Nat) (counts : List Nat) (p : List Byte) (tail : Nat) : Verdict :=
  if 40 < n || !counts.contains n then .length
  else if code = 1 then .carryOut (.fetchResult (8 * p.length + tail))
  else if code = 2 then .carryOut (.readAttention (8 * p.length + tail))
  else if p.length ≠ n || tail ≠ 0 then .length
  else
    match parse code p with
    | some c => .carryOut c
    | none => .length

/-- Judges a frame in the order of R181. A frame the port did not take is ignored (R173, R175). -/
def judge (f : Frame) : Verdict :=
  if !f.taken then .ignored
  else
    match f.bytes with
    | [] => .ignored
    | code :: rest =>
      match countsOf code.toNat with
      | none => .unknown
      | some counts =>
        match rest with
        | [] => .length
        | n :: p => judgeCount code.toNat n.toNat counts p f.tail

/-- The code and the parameter bytes of a command frame (R192); none for reading frames and events. -/
def wire : Instr → Option (Nat × List Byte)
  | .setAttentionMask m => some (0x03, bytes16 m)
  | .identify => some (0x04, [])
  | .restart => some (0x05, [])
  | .setClock m => some (0x06, bytes24 m)
  | .queryClock => some (0x07, [])
  | .hireSet u r c k h d t => some (0x10, bytes32 u ++ bytes16 r ++ bytes32 c ++ [k] ++ bytes16 h ++ bytes32 d ++ bytes32 t)
  | .querySet s none => some (0x11, [s])
  | .querySet s (some v) => some (0x11, [s, v])
  | .findSet u => some (0x12, bytes32 u)
  | .reportRun s r => some (0x13, [s, r])
  | .amendSet s k v l i r w => some (0x14, [s, k] ++ bytes32 v ++ bytes16 l ++ [i, r, w])
  | .dipSet s t => some (0x15, [s] ++ bytes32 t)
  | .offHireSet s => some (0x16, [s])
  | .beginCurve k => some (0x18, [k])
  | .loadCurvePoint v => some (0x19, bytes32 v)
  | .queryCurve k => some (0x1A, [k])
  | .bindSide c d s => some (0x20, [c, d, s])
  | .assignFeederAccount c a => some (0x21, [c, a])
  | .setFeederParameters c w d => some (0x22, [c, w, d])
  | .openFeeder c => some (0x23, [c])
  | .reconcileFeeder c => some (0x24, [c])
  | .queryFeeder c => some (0x25, [c])
  | .enqueueOrder c d s e => some (0x30, [c, d] ++ bytes24 s ++ bytes24 e)
  | .cancelOrder c => some (0x31, [c])
  | .queryQueue => some (0x32, [])
  | .querySequencer => some (0x33, [])
  | .setTransferParameters o c m => some (0x34, bytes16 o ++ bytes16 c ++ bytes16 m)
  | .registerSupplier s d => some (0x40, [s] ++ bytes24 d)
  | .querySupplier s => some (0x41, [s])
  | .openTicket p s u q => some (0x42, [p, s, u] ++ bytes32 q)
  | .setPermitMode p m => some (0x43, [p, m])
  | .closeTicket p d => some (0x44, [p] ++ bytes24 d)
  | .cancelTicket p => some (0x45, [p])
  | .queryPosition p => some (0x46, [p])
  | .openAccount c label => some (0x50, bytes32 c ++ label)
  | .queryAccount s => some (0x51, [s])
  | .findAccount c => some (0x52, bytes32 c)
  | .settleAccount s => some (0x53, [s])
  | .fetchStatement s => some (0x54, [s])
  | .releaseStatement s => some (0x55, [s])
  | .retireAccount s => some (0x56, [s])
  | .placeHold s => some (0x57, [s])
  | .releaseAllHolds => some (0x58, [])
  | .setBandRate b r => some (0x59, [b] ++ bytes16 r)
  | .setFuelPrice p => some (0x5A, bytes16 p)
  | .setScheduleSlot h b => some (0x5B, [h, b])
  | .queryTariff => some (0x5C, [])
  | .fetchResult _ => none
  | .readAttention _ => none
  | .snapshot => none
  | .unknownCommand _ => none
  | .energyPulse _ => none
  | .feedbackChange _ _ _ => none
  | .disagreementTimerExpiry _ _ => none
  | .openCheckDeadline _ => none
  | .intervalExpiry _ => none
  | .openTimeout => none
  | .deadTimeExpiry => none
  | .closeTimeout => none
  | .releaseDeadline => none
  | .fallbackTimeout => none
  | .fuelPulse _ => none
  | .nozzleLift _ => none
  | .hangUp _ => none
  | .siteSecondAdvance => none
  | .supplyOkFall => none
  | .supplyOkRise => none
  | .resumeTimerExpiry => none
  | .resetNFall => none
  | .resetNRise _ => none
  | .coldStart _ _ => none

/-- A frame taken by the port that brings whole bytes and then single bits (R180). -/
def Frame.sent (bytes : List Byte) (more : List Bool) : Frame := ⟨bytes.flatMap byteBits ++ more, true⟩

/-- The frame that carries a command, taken whole by the port (R180, R192). SDI is ignored while a reading
frame's output is clocked; it is low here. -/
def frameOf (c : Instr) : Option Frame :=
  match c with
  | .fetchResult bits => some (.sent [1, 0] (List.replicate bits false))
  | .readAttention bits => some (.sent [2, 0] (List.replicate bits false))
  | c => (wire c).map fun (code, p) => .sent (BitVec.ofNat 8 code :: BitVec.ofNat 8 p.length :: p) []

/-- spec/opcode_table.json gives none of its rows bits, so no word spells a command
(notes/assumptions/16.md). -/
def decodeTableWord (_nbits _w : Nat) : Option Instr := none

end Sys2Proof
end

