-- ==== Sys2Proof/Config.lean ====
section
/-! DEFINITION. What the manual leaves open and the model leaves free. -/

namespace Sys2Proof

/-- The free choice of an order among events that fall together: expiries that are due in the same
millisecond, and flushes that one reset makes. The manual gives both orders and no rule (R31, R63, R71,
R93). It is applied to the number of such choices made before; nothing is known of its values. DESIGN
CHOICE, notes/assumptions/2.md, 27.md. -/
opaque Config.pick : Nat → Nat

end Sys2Proof
end

