-- ==== Sys2Proof/Machine/State.lean ====
section
/-! DEFINITION. The state of the part: every record of its retained and port domains, its pins and the
queue of commands that wait, as plain data, and the state at cold start (R179). -/

namespace Sys2Proof.Machine

/-! ## Codes and names -/

/-- Result statuses (R4). -/
inductive Status where
  | ok | unknown | length | range | noRecord | exists | full | inUse | state | noClock | docket
  | noSupplier | held | pending | unsettled | sequence | clamped | none
deriving DecidableEq, Repr

/-- Feeder states (R47); `on d` is ON_A or ON_B. -/
inductive FeederState where
  | dark
  | on (side : Side)
  | transfer
  | fault
deriving DecidableEq, Repr

/-- Fault causes (R48). -/
inductive FaultCause where
  | none | unexpectedOpen | unexpectedClose | stuck
deriving DecidableEq, Repr

/-- Outcomes of a transfer or of an order's removal (R48). -/
inductive TransferOutcome where
  | done | failed | cancelled | expired
deriving DecidableEq, Repr

/-- Reasons recorded with an outcome (R122, R189). -/
inductive Reason where
  | none | openTimeout | closeTimeout | targetStopped | fallbackTimeout | openedByCommand | reset
  | hostCancel | windowEnded | feederFault | channelInactive
deriving DecidableEq, Repr

/-- Phases of a transfer in hand (R104). -/
inductive Phase where
  | opening | dead | closing | fallback
deriving DecidableEq, Repr

/-- Why a transfer entered FALLBACK (R104). -/
inductive FallbackReason where
  | targetStopped | closeTimeout
deriving DecidableEq, Repr

/-- Who placed an order (R83). -/
inductive Origin where
  | operator | relief
deriving DecidableEq, Repr

/-- Why an order waits (R97). -/
inductive Wait where
  | notDue | notRunning | targetDry | noHeadroom | lowRuntime | sequencerBusy
deriving DecidableEq, Repr

/-- Ticket states (R124). -/
inductive TicketState where
  | ready | dispensing | paused
deriving DecidableEq, Repr

/-- Permit modes of a delivery position (R123). -/
inductive PermitMode where
  | auto | forceOff | forceOn
deriving DecidableEq, Repr

/-- Supply modes (R172); RESUMING carries its resume timer in milliseconds. -/
inductive SupplyMode where
  | active
  | holdover
  | resuming (timer : Nat)
deriving DecidableEq, Repr

/-- A supplier's next docket (R138). -/
inductive Docket where
  | unregistered
  | next (n : Nat)
  | exhausted
deriving DecidableEq, Repr

/-! ## Records -/

/-- The Site Clock (R168). `millis` is the count towards the next second advance (R170). -/
structure Clock where
  valid : Bool
  minute : Nat
  second : Nat
  millis : Nat
deriving DecidableEq, Repr

/-- The four conditions of a set (R19). -/
structure Conds where
  reserve : Bool
  dry : Bool
  overload : Bool
  uncosted : Bool
deriving DecidableEq, Repr

/-- The record of a hired set (R6, R7, R8, R9, R10, R68, R69). `expiring` is the model's own: the
interval timer would reach 60,000 and its expiry waits to be taken (notes/assumptions/20.md). -/
structure SetRec where
  unit : BitVec 32
  rating : Nat
  capacity : Nat
  minHire : Nat
  dayRate : Nat
  hireStart : Nat
  curve : CurveNo
  reserve : Nat
  loadLimit : Nat
  idle : AccountSlot
  relief : Option SetSlot
  window : Nat
  running : Bool
  timer : Nat
  expiring : Bool
  tank : Nat
  remainder : Nat
  rate : Nat
  load : Nat
  runtime : Nat
  conds : Conds
  carried : List (AccountSlot × Nat)
  overflow : Nat
  runSeconds : Nat
  burned : Nat
  credited : Nat
  overfill : Nat
  dryCount : Nat
deriving DecidableEq, Repr

/-- A consumption curve's live points and complete marker (R24). -/
structure Curve where
  points : Vector Nat 11
  complete : Bool
deriving DecidableEq, Repr

/-- The open staging buffer (R25); the point index is the number of points staged. -/
structure Staging where
  curve : CurveNo
  points : List Nat
deriving DecidableEq, Repr

/-- A feeder's last transfer outcome (R48). -/
structure LastTransfer where
  target : Side
  outcome : TransferOutcome
  reason : Reason
  minute : Nat
deriving DecidableEq, Repr

/-- A feeder record with its drive latches, open check and disagreement timers (R46, R47, R48, R49, R62).
A drive is `true` while it is closed. `openCheck` is the time left to its deadline. -/
structure Feeder where
  bound : PerSide (Option SetSlot)
  account : AccountSlot
  weight : Nat
  deadTime : Nat
  state : FeederState
  cause : FaultCause
  interval : Nat
  lifetime : Nat
  demand : Nat
  last : Option LastTransfer
  openCheck : Option Nat
  drive : PerSide Bool
  watch : PerSide (Option Nat)
deriving DecidableEq, Repr

/-- A queued order (R83). -/
structure Order where
  feeder : Channel
  target : Side
  startMin : Nat
  endMin : Nat
  origin : Origin
  wait : Wait
deriving DecidableEq, Repr

/-- The transfer in hand (R104). `deadline` is the time left in the phase. -/
structure Transfer where
  feeder : Channel
  fromSide : Option Side
  target : Side
  deadTime : Nat
  phase : Phase
  releasing : Bool
  fallback : Option FallbackReason
  deadline : Nat
  elapsed : Nat
deriving DecidableEq, Repr

/-- The sequencer's last-outcome record (R121). -/
structure LastOutcome where
  feeder : Channel
  fromSide : Option Side
  fromSet : Option SetSlot
  target : Side
  targetSet : Option SetSlot
  outcome : TransferOutcome
  reason : Reason
  phase : Phase
  releasing : Bool
  minute : Nat
  elapsed : Nat
deriving DecidableEq, Repr

/-- The transfer parameters (R120). -/
structure Params where
  openTimeout : Nat
  closeTimeout : Nat
  minRuntime : Nat
deriving DecidableEq, Repr

/-- A delivery ticket (R124). -/
structure Ticket where
  state : TicketState
  set : SetSlot
  supplier : SupplierNo
  ordered : Nat
  remaining : Int
  delivered : Nat
  liftMark : Nat
  credited : Nat
  lifts : Nat
  preset : Bool
  overrun : Bool
deriving DecidableEq, Repr

/-- A delivery position (R123). -/
structure Position where
  mode : PermitMode
  stray : Nat
  ticket : Option Ticket
deriving DecidableEq, Repr

/-- A supplier record (R138). -/
structure Supplier where
  docket : Docket
  closed : Nat
  delivered : Nat
deriving DecidableEq, Repr

/-- A settled statement (R161). -/
structure Statement where
  number : Nat
  periodStart : Nat
  periodEnd : Nat
  band : Vector Nat 4
  fuel : Nat
  energyCents : Nat
  fuelCents : Nat
  totalCents : Nat
  saturated : Bool
deriving DecidableEq, Repr

/-- An open account (R146, R147). -/
structure Account where
  code : BitVec 32
  label : List Byte
  periodStart : Nat
  nextStatement : Nat
  hold : Bool
  saturated : Bool
  statement : Option Statement
  band : Vector Nat 4
  energyAccrual : Nat
  fuelShare : Nat
  fuelAccrual : Nat
deriving DecidableEq, Repr

/-- A tariff item: its live value and its pending value, if any (R154). -/
structure TariffItem (α : Type) where
  live : α
  waiting : Option α
deriving DecidableEq, Repr

/-- The Tariff Unit (R154). -/
structure Tariff where
  rates : Vector (TariffItem Nat) 4
  price : TariffItem Nat
  schedule : Vector (TariffItem Band) 24
deriving DecidableEq, Repr

/-- The result buffer (R182); the result length is the number of data bytes. -/
structure Result where
  status : Status
  data : List Byte
deriving DecidableEq, Repr

/-- What SDO does over one frame (R180): `released` is high impedance throughout, in a frame the port
does not take (R173, R175); `low` is 00h throughout, in a command frame; `output bits` is 00h on bytes 0
and 1 of a reading frame and then the bits driven, first to last, until SEL_N rises. -/
inductive Sdo where
  | released
  | low
  | output (bits : List Bool)
deriving DecidableEq, Repr

/-- What a Read Attention frame in progress holds (R187): the snapshot and the re-raise markers. -/
structure Snapshot where
  taken : BitVec 16
  reRaised : BitVec 16
deriving DecidableEq, Repr

/-! ## The state -/

/-- The state of the part. INVENTORY.md lists each field with the rule that gives it. -/
structure State where
  uptime : Nat
  clock : Clock
  mode : SupplyMode
  straps : Straps
  sets : Vector (Option SetRec) 24
  curves : Vector Curve 6
  feeders : Vector Feeder 16
  queue : List Order
  params : Params
  lastOutcome : Option LastOutcome
  positions : Vector Position 4
  suppliers : Vector Supplier 4
  accounts : Vector (Option Account) 64
  tariff : Tariff
  result : Result
  flags : BitVec 16
  mask : BitVec 16
  snapshot : Option Snapshot
  sdo : Sdo
  staging : Option Staging
  transfer : Option Transfer
  pins : Pins
  pending : List Instr
  choices : Nat
deriving DecidableEq, Repr

/-! ## Cold start -/

/-- A feeder record after cold start (R46, R48, R67). -/
def Feeder.cold : Feeder where
  bound := ⟨none, none⟩
  account := 0
  weight := 10
  deadTime := 5
  state := .dark
  cause := .none
  interval := 0
  lifetime := 0
  demand := 0
  last := none
  openCheck := none
  drive := ⟨false, false⟩
  watch := ⟨none, none⟩

/-- An account with no charges and no statement (R146, R147, R149). -/
def Account.fresh (code : BitVec 32) (label : List Byte) (periodStart : Nat) : Account where
  code := code
  label := label
  periodStart := periodStart
  nextStatement := 1
  hold := false
  saturated := false
  statement := none
  band := Vector.replicate 4 0
  energyAccrual := 0
  fuelShare := 0
  fuelAccrual := 0

/-- The result buffer's value after a reset (R182). -/
def Result.none : Result := ⟨.none, []⟩

/-- The part just after cold start, with the strap pins and the input pins at the levels given (R179). -/
def State.cold (straps : Straps) (pins : Pins) : State where
  uptime := 0
  clock := ⟨false, 0, 0, 0⟩
  mode := if pins.supplyOk then .resuming 0 else .holdover
  straps := straps
  sets := Vector.replicate 24 none
  curves := Vector.replicate 6 ⟨Vector.replicate 11 0, false⟩
  feeders := Vector.replicate 16 Feeder.cold
  queue := []
  params := ⟨400, 400, 30⟩
  lastOutcome := none
  positions := Vector.replicate 4 ⟨.auto, 0, none⟩
  suppliers := Vector.replicate 4 ⟨.unregistered, 0, 0⟩
  accounts := (Vector.replicate 64 none).set 0 (some (Account.fresh 0 [] 0))
  tariff := ⟨Vector.replicate 4 ⟨0, none⟩, ⟨0, none⟩, Vector.replicate 24 ⟨0, none⟩⟩
  result := .none
  flags := 0
  mask := BitVec.allOnes 16
  snapshot := none
  sdo := .released
  staging := none
  transfer := none
  pins := pins
  pending := []
  choices := 0

/-- The levels the input pins have at `State.reset`: feedback lines low, nozzles inactive, SUPPLY_OK and
RESET_N high. DESIGN CHOICE, unsafe: the spec says nothing of external lines (notes/assumptions/4.md). -/
def Pins.quiet : Pins where
  feedback := ⟨Vector.replicate 16 false, Vector.replicate 16 false⟩
  nozzle := Vector.replicate 4 false
  supplyOk := true
  resetN := true

/-- The part right after cold start with quiet pins and clear straps (R179). -/
def State.reset : State := State.cold ⟨false, false, false⟩ Pins.quiet

/-! ## Stops -/

/-- Reasons a step could stop the machine. The part has none: a refused command answers a status (R3,
R4) and every event is taken or ignored, so the type has no constructor. -/
inductive Fault where
deriving DecidableEq, Repr

/-- Reasons a command could have no meaning. -/
inductive Refusal where
  /-- Raised by an arm of `exec` that has no meaning yet; safe. No arm of this model raises it. -/
  | notModelled (mnemonic : String)
deriving DecidableEq, Repr

end Sys2Proof.Machine
end

