-- ==== Sys2Proof/Machine/Flags.lean ====
section
/-! DEFINITION. The attention flags and every line and condition the part derives from its records:
raising a flag (R185, R187), ATTN_N (R188), SDO (R180), the permit outputs (R136), the conditions of a set (R19,
R20) and their entries. -/

namespace Sys2Proof.Machine

/-- The sixteen attention flags (R191). -/
inductive Flag where
  | presetReached | nozzleDown | overfill | overrunLimit | reserve | dry | overload | uncosted
  | transferDone | transferFailed | orderExpired | reliefDropped | feederFault | supplyRestored
  | saturated | strayFuel
deriving DecidableEq, Repr

/-- The bit number of a flag (R191). -/
def Flag.bit : Flag → Nat
  | .presetReached => 0
  | .nozzleDown => 1
  | .overfill => 2
  | .overrunLimit => 3
  | .reserve => 4
  | .dry => 5
  | .overload => 6
  | .uncosted => 7
  | .transferDone => 8
  | .transferFailed => 9
  | .orderExpired => 10
  | .reliefDropped => 11
  | .feederFault => 12
  | .supplyRestored => 13
  | .saturated => 14
  | .strayFuel => 15

/-- The sixteen-bit word with one flag set. -/
def Flag.word (f : Flag) : BitVec 16 := BitVec.twoPow 16 f.bit

/-- A re-raise marker is set by a flag raised while a snapshot is held (R187). -/
def Snapshot.mark (p : Snapshot) (f : Flag) : Snapshot := { p with reRaised := p.reRaised ||| f.word }

/-- Raises a flag: it is set if its mask bit is 1 and RESET_N is high, and its re-raise marker with it;
otherwise the notice is lost (R175, R185, R187). That a masked notice marks nothing is DEDUCED
(notes/assumptions/10.md). -/
def State.raise (s : State) (f : Flag) : State :=
  if s.pins.resetN && s.mask.getLsbD f.bit then
    { s with flags := s.flags ||| f.word, snapshot := s.snapshot.map (·.mark f) }
  else s

/-- Raises a flag when a condition holds. -/
def State.raiseIf (s : State) (c : Bool) (f : Flag) : State := if c then s.raise f else s

/-- ATTN_N is driven low: a flag is set, the mode is ACTIVE and RESET_N is high (R173, R188). -/
def State.attnLow (s : State) : Bool := s.flags != 0 && s.mode == .active && s.pins.resetN

/-- The level of SDO while bit `k` of a frame is clocked, counted from the first bit of byte 0; none is
high impedance (R180). After the last bit of a reading frame SEL_N is high and the line is released. -/
def Sdo.level (o : Sdo) (k : Nat) : Option Bool :=
  match o with
  | .released => none
  | .low => some false
  | .output bits => if k < 16 then some false else bits[k - 16]?

/-- The level of SDO between two commands of the queue: high impedance, for SEL_N is high (R180), but at
the end of byte 1 of a Read Attention frame in progress, where the 00h of byte 1 still stands (R187). -/
def State.sdoNow (s : State) : Option Bool := if s.snapshot.isSome then some false else none

/-- A position's permit output (R136). -/
def Position.permitOn (p : Position) : Bool :=
  match p.mode with
  | .forceOff => false
  | .forceOn => true
  | .auto =>
    match p.ticket with
    | some t => t.state == .dispensing && decide (0 < t.remaining)
    | none => false

/-- Raises the flag of each condition that is present now and was absent before (R20). -/
def State.raiseEntries (s : State) (before after : Conds) : State :=
  (((s.raiseIf (!before.reserve && after.reserve) .reserve).raiseIf
    (!before.dry && after.dry) .dry).raiseIf
    (!before.overload && after.overload) .overload).raiseIf
    (!before.uncosted && after.uncosted) .uncosted

/-- RESERVE and DRY re-derived from the tank estimate (R19). -/
def SetRec.withFuelConds (r : SetRec) : SetRec :=
  { r with conds := { r.conds with reserve := r.tank ≤ r.reserve, dry := r.tank = 0 } }

/-- RESERVE re-derived from the tank estimate (R17, R19). -/
def SetRec.withReserveCond (r : SetRec) : SetRec :=
  { r with conds := { r.conds with reserve := r.tank ≤ r.reserve } }

/-- OVERLOAD re-derived from a load in per-mille (R19, R36). -/
def SetRec.withOverloadCond (r : SetRec) (load : Nat) : SetRec :=
  { r with conds := { r.conds with overload := r.loadLimit < load } }

end Sys2Proof.Machine
end

