-- ==== Sys2Proof/Machine/Operands.lean ====
section
/-! DEFINITION. The operand forms of commands (R5, R45, R123, R138, R145, R192), the checks that refuse
them (R3), and the codes and byte layouts results are written in (R1, R4, R189, R192). -/

namespace Sys2Proof.Machine

/-! ## Operands -/

/-- Goes on when a check holds, and is refused with a status otherwise (R3). -/
def require (c : Bool) (st : Status) : Except Status Unit := if c then .ok () else .error st

/-- A slot number 1 to 24, else RANGE (R5). -/
def slotOperand (b : Byte) : Except Status SetSlot :=
  if h : 1 ≤ b.toNat ∧ b.toNat ≤ 24 then .ok ⟨b.toNat - 1, by omega⟩ else .error .range

/-- A slot number 0 to 24 in which 0 means none, else RANGE (R5). -/
def slotOrNoneOperand (b : Byte) : Except Status (Option SetSlot) :=
  if b.toNat = 0 then .ok none
  else if h : b.toNat ≤ 24 then .ok (some ⟨b.toNat - 1, by omega⟩) else .error .range

/-- A number below a table's size, else RANGE: channels (R45), accounts (R145), positions (R123),
suppliers (R138), curves (R26), bands and hours (R155). -/
def indexOperand (n : Nat) (b : Byte) : Except Status (Fin n) :=
  if h : b.toNat < n then .ok ⟨b.toNat, h⟩ else .error .range

/-- A side, 00h for A and 01h for B, else RANGE (R55, R86). -/
def sideOperand (b : Byte) : Except Status Side :=
  if b.toNat = 0 then .ok .A else if b.toNat = 1 then .ok .B else .error .range

/-- A permit mode, 00h to 02h, else RANGE (R137). -/
def permitModeOperand (b : Byte) : Except Status PermitMode :=
  if b.toNat = 0 then .ok .auto
  else if b.toNat = 1 then .ok .forceOff
  else if b.toNat = 2 then .ok .forceOn
  else .error .range

/-- A run report, 01h STARTED and 00h STOPPED, else RANGE (R14). -/
def reportOperand (b : Byte) : Except Status Bool :=
  if b.toNat = 1 then .ok true else if b.toNat = 0 then .ok false else .error .range

/-- Brings a value to the nearest end of its range (R3). -/
def clampTo (lo hi v : Nat) : Nat := if v < lo then lo else if hi < v then hi else v

/-- CLAMPED when a value was changed, OK otherwise (R3). -/
def clampedIf (c : Bool) : Status := if c then .clamped else .ok

/-! ## Result bytes -/

/-- An unsigned figure in `n` bytes, most-significant byte first (R1, R189). -/
def be : Nat → Nat → List Byte
  | 0, _ => []
  | n + 1, v => be n (v / 256) ++ [BitVec.ofNat 8 v]

/-- A signed figure in `n` bytes, two's complement (R189). -/
def beInt (n : Nat) (z : Int) : List Byte := be n (z % (256 ^ n : Nat)).toNat

/-- One byte. -/
def byte (v : Nat) : List Byte := [BitVec.ofNat 8 v]

/-- A set slot, 0 for none (R5, R189). -/
def slotCode : Option SetSlot → Nat
  | none => 0
  | some i => i.val + 1

/-- A side, FFh for none (R189). -/
def sideCode : Option Side → Nat
  | some .A => 0
  | some .B => 1
  | none => 0xFF

/-- A status code (R4). -/
def Status.code : Status → Nat
  | .ok => 0x00
  | .unknown => 0x01
  | .length => 0x02
  | .range => 0x03
  | .noRecord => 0x04
  | .exists => 0x05
  | .full => 0x06
  | .inUse => 0x07
  | .state => 0x08
  | .noClock => 0x09
  | .docket => 0x0A
  | .noSupplier => 0x0B
  | .held => 0x0C
  | .pending => 0x0D
  | .unsettled => 0x0E
  | .sequence => 0x0F
  | .clamped => 0x10
  | .none => 0x11

/-- A feeder state code (R189). -/
def FeederState.code : FeederState → Nat
  | .dark => 0
  | .on .A => 1
  | .on .B => 2
  | .transfer => 3
  | .fault => 4

/-- A fault cause code (R189). -/
def FaultCause.code : FaultCause → Nat
  | .none => 0
  | .unexpectedOpen => 1
  | .unexpectedClose => 2
  | .stuck => 3

/-- An outcome code (R189). -/
def TransferOutcome.code : TransferOutcome → Nat
  | .done => 1
  | .failed => 2
  | .cancelled => 3
  | .expired => 4

/-- A reason code (R189). -/
def Reason.code : Reason → Nat
  | .none => 0x00
  | .openTimeout => 0x01
  | .closeTimeout => 0x02
  | .targetStopped => 0x03
  | .fallbackTimeout => 0x04
  | .openedByCommand => 0x05
  | .reset => 0x06
  | .hostCancel => 0x07
  | .windowEnded => 0x08
  | .feederFault => 0x09
  | .channelInactive => 0x0A

/-- The reason a fallback gives its transfer (R112). -/
def FallbackReason.reason : FallbackReason → Reason
  | .targetStopped => .targetStopped
  | .closeTimeout => .closeTimeout

/-- A sequencer phase code (R189); 00h is IDLE. -/
def Phase.code : Phase → Nat
  | .opening => 1
  | .dead => 2
  | .closing => 3
  | .fallback => 4

/-- The phase byte: phase in bits 0 to 2, releasing in bit 3 (R191). -/
def phaseByte (p : Phase) (releasing : Bool) : Nat := p.code + 8 * releasing.toNat

/-- A wait reason code (R192). -/
def Wait.code : Wait → Nat
  | .notDue => 0
  | .notRunning => 1
  | .targetDry => 2
  | .noHeadroom => 3
  | .lowRuntime => 4
  | .sequencerBusy => 5

/-- An origin code (R193). -/
def Origin.code : Origin → Nat
  | .operator => 0
  | .relief => 1

/-- A ticket state code, 00h for EMPTY (R189). -/
def ticketCode : Option Ticket → Nat
  | none => 0
  | some t =>
    match t.state with
    | .ready => 1
    | .dispensing => 2
    | .paused => 3

/-- A permit mode code (R189). -/
def PermitMode.code : PermitMode → Nat
  | .auto => 0
  | .forceOff => 1
  | .forceOn => 2

/-- A docket field: FFFFFFh for an exhausted counter, 000000h for an unregistered supplier (R193). -/
def Docket.code : Docket → Nat
  | .unregistered => 0
  | .next n => n
  | .exhausted => 0xFFFFFF

/-- The last transfer outcome of a feeder: target side, outcome, reason, minute. Absent, it reads 00h
throughout; DEDUCED from R189 (notes/assumptions/13.md). -/
def lastTransferBytes : Option LastTransfer → List Byte
  | none => be 6 0
  | some l => byte (sideCode (some l.target)) ++ byte l.outcome.code ++ byte l.reason.code ++ be 3 l.minute

/-- The first `n` bits of an output stream that goes on with 00h bytes (R183, R187). -/
def outputBits (out : List Byte) (n : Nat) : List Bool :=
  ((out.flatMap byteBits) ++ List.replicate n false).take n

/-- A list of flags as a number, the first flag in the highest bit (R193). -/
def packBits (l : List Bool) : Nat := l.foldl (fun acc b => 2 * acc + b.toNat) 0

/-- Two-bit figures as a number, the first in the highest bits (R193). -/
def packPairs (l : List Nat) : Nat := l.foldl (fun acc v => 4 * acc + v) 0

end Sys2Proof.Machine
end

