-- ==== Sys2Proof/Machine/Ops.lean ====
section
/-! DEFINITION. The named operations on records that several commands share: table updates, saturating
totals, the command port, the clock and the band in force, accounts, sets, feeders with their drives,
feedback and monitor, flushes, and the removal of orders. -/

namespace Sys2Proof.Machine

/-! ## Totals -/

/-- The most a 16-bit total holds. -/
def max16 : Nat := 65535

/-- The most a 24-bit total holds (R48, R123, R124). -/
def max24 : Nat := 16777215

/-- The most a 32-bit total holds (R10, R48, R69, R147). -/
def max32 : Nat := 4294967295

/-- The most an account's accrual holds (R147). -/
def max48 : Nat := 281474976710655

/-- The site minute at which the clock holds (R168). -/
def lastMinute : Nat := 1048575

/-- A saturating addition (R3). -/
def satAdd (cap a x : Nat) : Nat := min cap (a + x)

/-- An addition that is cut short by a total's maximum (R147). -/
def cutShort (cap a x : Nat) : Bool := decide (cap < a + x) && decide (x ≠ 0)

/-! ## Tables -/

/-- The record of a hired set, if the slot is hired (R5). -/
def State.set? (s : State) (i : SetSlot) : Option SetRec := s.sets[i]

/-- Writes a set slot. -/
def State.putSet (s : State) (i : SetSlot) (r : Option SetRec) : State :=
  { s with sets := s.sets.set i r }

/-- Changes a hired set's record; a free slot holds none (R5). -/
def State.updSet (s : State) (i : SetSlot) (g : SetRec → SetRec) : State :=
  s.putSet i ((s.set? i).map g)

/-- A feeder record. -/
def State.feeder (s : State) (ch : Channel) : Feeder := s.feeders[ch]

/-- Writes a feeder record. -/
def State.putFeeder (s : State) (ch : Channel) (f : Feeder) : State :=
  { s with feeders := s.feeders.set ch f }

/-- The record of an open account, if the slot is open (R145). -/
def State.account? (s : State) (a : AccountSlot) : Option Account := s.accounts[a]

/-- Writes an account slot. -/
def State.putAccount (s : State) (a : AccountSlot) (r : Option Account) : State :=
  { s with accounts := s.accounts.set a r }

/-- A delivery position. -/
def State.position (s : State) (p : PositionNo) : Position := s.positions[p]

/-- Writes a delivery position. -/
def State.putPosition (s : State) (p : PositionNo) (r : Position) : State :=
  { s with positions := s.positions.set p r }

/-- A supplier record. -/
def State.supplier (s : State) (n : SupplierNo) : Supplier := s.suppliers[n]

/-- Writes a supplier record. -/
def State.putSupplier (s : State) (n : SupplierNo) (r : Supplier) : State :=
  { s with suppliers := s.suppliers.set n r }

/-- The sixteen channels in channel order. -/
def channels : List Channel := [0, 1, 2, 3, 4, 5, 6, 7, 8, 9, 10, 11, 12, 13, 14, 15]

/-! ## The command port -/

/-- The port takes frames: the mode is ACTIVE and RESET_N is high (R173, R175). -/
def State.portOpen (s : State) : Bool := s.mode == .active && s.pins.resetN

/-- What a command's own rule answers: its status, its data bytes and the state after it. -/
structure Reply where
  status : Status
  data : List Byte
  state : State

/-- The state after a frame the port does not take: SDO stayed at high impedance throughout, and nothing
else changes (R173, R175, R180). -/
def State.notTaken (s : State) : State := { s with sdo := .released }

/-- The state after a command frame: its result is written (R182), and SDO drove 00h throughout (R180). -/
def State.answer (s : State) (status : Status) (data : List Byte) : State :=
  { s with result := ⟨status, data⟩, sdo := .low }

/-- Carries a command out at the rise of SEL_N. With the port closed the frame is ignored (R173, R175).
A refusal writes its status with no data and changes no record (R3, R182); an answer writes its status
and data. -/
def serve (s : State) (body : Except Status Reply) : Host.Outcome State Fault Refusal :=
  .next <|
    if s.portOpen then
      match body with
      | .ok r => r.state.answer r.status r.data
      | .error st => s.answer st []
    else s.notTaken

/-- The hired set in a slot, else NO_RECORD (R5). -/
def hiredSet (s : State) (i : SetSlot) : Except Status SetRec :=
  match s.set? i with
  | some r => .ok r
  | none => .error .noRecord

/-- The open account in a slot, else NO_RECORD (R145). -/
def openSlot (s : State) (a : AccountSlot) : Except Status Account :=
  match s.account? a with
  | some r => .ok r
  | none => .error .noRecord

/-! ## Clock and tariff -/

/-- The site minute a record writes: 0 while the clock is INVALID (R168). -/
def State.now (s : State) : Nat := if s.clock.valid then s.clock.minute else 0

/-- The hour of day of a site minute (R168). -/
def hourOf (minute : Nat) : Hour := ⟨minute / 60 % 24, Nat.mod_lt _ (by decide)⟩

/-- The hour of day as results carry it, FFh while the clock is INVALID (R171). -/
def State.hourByte (s : State) : Nat := if s.clock.valid then (hourOf s.clock.minute).val else 0xFF

/-- The band in force (R157). -/
def State.bandInForce (s : State) : Band :=
  if s.clock.valid then (s.tariff.schedule[hourOf s.clock.minute]).live else 0

/-- The live rate of the band in force (R51). -/
def State.rateInForce (s : State) : Nat := (s.tariff.rates[s.bandInForce]).live

/-- A pending value becomes live (R156). -/
def TariffItem.apply {α : Type} (t : TariffItem α) : TariffItem α := ⟨t.waiting.getD t.live, none⟩

/-- Every pending value becomes live (R156). -/
def Tariff.apply (t : Tariff) : Tariff where
  rates := t.rates.map TariffItem.apply
  price := t.price.apply
  schedule := t.schedule.map TariffItem.apply

/-- The number of items that have a pending value (R170). -/
def Tariff.waitingCount (t : Tariff) : Nat :=
  t.rates.toList.countP (·.waiting.isSome) + t.price.waiting.isSome.toNat
    + t.schedule.toList.countP (·.waiting.isSome)

/-! ## Accounts -/

/-- Writes an account after an addition to its running totals; an addition cut short sets the
saturation marker and raises SATURATED (R147). -/
def State.postAccount (s : State) (a : AccountSlot) (r : Account) (cut : Bool) : State :=
  (s.putAccount a (some { r with saturated := r.saturated || cut })).raiseIf cut .saturated

/-- Bills `w` Wh to an account in the band in force (R51, R147). -/
def State.billEnergy (s : State) (a : AccountSlot) (w : Nat) : State :=
  match s.account? a with
  | none => s
  | some r =>
    let b := s.bandInForce
    let cents := w * s.rateInForce
    s.postAccount a
      { r with
        band := r.band.set b (satAdd max32 r.band[b] w)
        energyAccrual := satAdd max48 r.energyAccrual cents }
      (cutShort max32 r.band[b] w || cutShort max48 r.energyAccrual cents)

/-- Credits a share of `x` mL to an account at the live fuel price; a share of 0 changes nothing
(R80, R147). -/
def State.creditShare (s : State) (a : AccountSlot) (x : Nat) : State :=
  match s.account? a with
  | none => s
  | some r =>
    let cents := x * s.tariff.price.live
    s.postAccount a
      { r with
        fuelShare := satAdd max32 r.fuelShare x
        fuelAccrual := satAdd max48 r.fuelAccrual cents }
      (cutShort max32 r.fuelShare x || cutShort max48 r.fuelAccrual cents)

/-! ## Sets -/

/-- Runtime in minutes from a tank estimate and a rate (R8, R41). -/
def runtimeOf (tank rate : Nat) : Nat :=
  if rate = 0 then 65535 else min (tank * 60 / rate) 65534

/-- The runtime recomputed from the tank estimate and the last rate: the Runtime stage, a dip and a
hang-up credit (R8, R41). -/
def SetRec.withRuntime (r : SetRec) : SetRec := { r with runtime := runtimeOf r.tank r.rate }

/-- Writes a hired set's record and raises the flag of each condition entered (R20). -/
def State.writeSet (s : State) (i : SetSlot) (before after : SetRec) : State :=
  (s.putSet i (some after)).raiseEntries before.conds after.conds

/-- Adds energy under an account to a list of entries: it merges in place, or is appended at the end;
amounts saturate (R34, R70). -/
def addEntry (l : List (AccountSlot × Nat)) (a : AccountSlot) (e : Nat) : List (AccountSlot × Nat) :=
  if l.any (fun p => p.1 == a) then
    l.map fun p => if p.1 = a then (a, satAdd max32 p.2 e) else p
  else l ++ [(a, e)]

/-- Takes flushed energy into a set's carried list or, with no place, its carried overflow (R70). -/
def SetRec.carry (r : SetRec) (a : AccountSlot) (e : Nat) : SetRec :=
  if r.carried.any (fun p => p.1 == a) || decide (r.carried.length < 4) then
    { r with carried := addEntry r.carried a e }
  else { r with overflow := satAdd max32 r.overflow e }

/-! ## Feeders -/

/-- Whether a channel is active (R45). -/
def State.active (s : State) (ch : Channel) : Bool := decide (ch.val < 8) || !s.straps.feeders8

/-- The closed side of a feeder (R47). -/
def Feeder.closedSide (f : Feeder) : Option Side :=
  match f.state with
  | .on d => some d
  | _ => none

/-- The set a feeder is energised from (R47). -/
def Feeder.energisedSet (f : Feeder) : Option SetSlot :=
  match f.state with
  | .on d => f.bound.get d
  | _ => none

/-- A feedback input reads closed, at the polarity last sampled (R49). -/
def State.fbClosed (s : State) (ch : Channel) (d : Side) : Bool :=
  (s.pins.feedback.get d)[ch] != s.straps.fbLow

/-- Both feedbacks of a feeder read open. -/
def State.fbBothOpen (s : State) (ch : Channel) : Bool := !s.fbClosed ch .A && !s.fbClosed ch .B

/-- The feedback monitor watches a feeder that is DARK with no open check, ON_A or ON_B (R62). -/
def Feeder.watched (f : Feeder) : Bool :=
  match f.state with
  | .dark => f.openCheck.isNone
  | .on _ => true
  | _ => false

/-- The monitor finds a side's drive and feedback in disagreement (R61, R62). -/
def State.disagrees (s : State) (ch : Channel) (d : Side) : Bool :=
  s.active ch && (s.feeder ch).watched && ((s.feeder ch).drive.get d != s.fbClosed ch d)

/-- Runs a disagreement timer on by `ms`, starts it, or cancels it (R62). -/
def State.watchTimer (s : State) (ch : Channel) (ms : Nat) (d : Side) : Option Nat :=
  if s.disagrees ch d then some (((s.feeder ch).watch.get d).getD 0 + ms) else none

/-- The disagreement timers of a feeder after `ms` milliseconds (R62). -/
def State.rewatch (s : State) (ch : Channel) (ms : Nat) : State :=
  s.putFeeder ch
    { s.feeder ch with watch := ⟨s.watchTimer ch ms .A, s.watchTimer ch ms .B⟩ }

/-- What a flush of the feeder moves: the energised set and the interval energy, if there is any to
move (R53). -/
def State.flushMoves (s : State) (ch : Channel) : Option (SetSlot × Nat) :=
  match (s.feeder ch).energisedSet with
  | some i => if 0 < (s.feeder ch).interval then some (i, (s.feeder ch).interval) else none
  | none => none

/-- A flush of a feeder (R53). -/
def State.flush (s : State) (ch : Channel) : State :=
  match s.flushMoves ch with
  | some (i, e) =>
    (s.updSet i (·.carry (s.feeder ch).account e)).putFeeder ch { s.feeder ch with interval := 0 }
  | none => s

/-- The energy a flush moved and the set it went to, as results carry them (R56, R58). -/
def flushBytes (moved : Option (SetSlot × Nat)) : List Byte :=
  match moved with
  | some (i, e) => be 3 e ++ byte (slotCode (some i))
  | none => be 4 0

/-- Drives one contactor of a feeder open or closed (R49). -/
def State.driveSide (s : State) (ch : Channel) (d : Side) (closed : Bool) : State :=
  s.putFeeder ch { s.feeder ch with drive := (s.feeder ch).drive.set d closed }

/-- Drives both contactors of a feeder open (R58, R63, R66). -/
def State.driveOpen (s : State) (ch : Channel) : State :=
  s.putFeeder ch { s.feeder ch with drive := ⟨false, false⟩ }

/-- Records a feeder's last transfer outcome at the present site minute (R48). -/
def State.recordLast (s : State) (ch : Channel) (target : Side) (o : TransferOutcome) (r : Reason) : State :=
  s.putFeeder ch { s.feeder ch with last := some ⟨target, o, r, s.now⟩ }

/-! ## Orders -/

/-- The order queued for a feeder, if there is one (R84: at most one). -/
def State.orderFor (s : State) (ch : Channel) : Option Order := s.queue.find? (·.feeder == ch)

/-- Takes the feeder's order out of the queue, if there is one, and records why (chapter 5.4). -/
def State.removeOrder (s : State) (ch : Channel) (o : TransferOutcome) (r : Reason) : State :=
  match s.orderFor ch with
  | none => s
  | some ord =>
    ({ s with queue := s.queue.filter (·.feeder != ch) } : State).recordLast ch ord.target o r

/-- Places an order behind every order that starts no later and in front of every later one (R84). -/
def insertOrder (o : Order) : List Order → List Order
  | [] => [o]
  | p :: rest => if p.startMin ≤ o.startMin then p :: insertOrder o rest else o :: p :: rest

/-- The order of a list that a number chooses; every order of the list is some number's (R71). -/
def arrange {α : Type} (n : Nat) : List α → List α
  | [] => []
  | x :: rest => (arrange (n / (rest.length + 1)) rest).insertIdx (n % (rest.length + 1)) x

/-- A free choice of the order in which feeders come that the manual gives no order: two or more take the
next value of `Config.pick` (R71; notes/assumptions/27.md). -/
def State.drawOrder (s : State) (l : List Channel) : List Channel × State :=
  match l with
  | [] => ([], s)
  | [ch] => ([ch], s)
  | l => (arrange (Config.pick s.choices) l, { s with choices := s.choices + 1 })

/-- A feeder becomes FAULT: flushed, both drives open, its order removed, FEEDER_FAULT raised (R63). -/
def State.faultFeeder (s : State) (ch : Channel) (cause : FaultCause) : State :=
  let s := (s.flush ch).driveOpen ch
  let s := s.putFeeder ch
    { s.feeder ch with state := .fault, cause := cause, openCheck := none, watch := ⟨none, none⟩ }
  (s.removeOrder ch .failed .feederFault).raise .feederFault

/-! ## Load -/

/-- The demand a feeder places on a set: its last demand while it is active and energised from it (R43). -/
def State.demandOn (s : State) (i : SetSlot) (ch : Channel) : Nat :=
  if s.active ch && (s.feeder ch).energisedSet == some i then (s.feeder ch).demand else 0

/-- The demand of a transfer in hand towards a set (R43). -/
def State.transferDemandOn (s : State) (i : SetSlot) : Nat :=
  match s.transfer with
  | some t =>
    if (s.feeder t.feeder).bound.get t.target == some i then (s.feeder t.feeder).demand else 0
  | none => 0

/-- The committed load of a set, in W (R43). -/
def State.committed (s : State) (i : SetSlot) : Nat :=
  (channels.map (s.demandOn i)).sum + s.transferDemandOn i

/-- The headroom of a set, in W (R44). -/
def State.headroom (s : State) (i : SetSlot) (r : SetRec) : Int :=
  (r.rating * r.loadLimit : Nat) - (s.committed i : Int)

end Sys2Proof.Machine
end

