-- ==== Sys2Proof/Machine/Accounts.lean ====
section
/-! DEFINITION. The Account Table's commands (chapter 8, chapter 4.2). -/

namespace Sys2Proof.Machine

/-- The account slots in order. -/
def accountSlots : List AccountSlot := List.ofFn id

/-- The open account that carries a code (R146, R150). -/
def State.slotOfCode (s : State) (code : BitVec 32) : Option AccountSlot :=
  accountSlots.find? fun a =>
    match s.account? a with
    | some r => r.code == code
    | none => false

/-- OPEN_ACCOUNT (R149). -/
def execOpenAccount (code : BitVec 32) (label : List Byte) (s : State) :
    Host.Outcome State Fault Refusal :=
  serve s do
    require (s.slotOfCode code).isNone .exists
    match accountSlots.find? fun a => (s.account? a).isNone with
    | none => .error .full
    | some a =>
      .ok ⟨.ok, byte a.val ++ be 3 s.now, s.putAccount a (some (Account.fresh code label s.now))⟩

/-- The feeders that name an account, on active and inactive channels (R151). -/
def State.feedersNaming (s : State) (a : AccountSlot) : Nat :=
  s.feeders.toList.countP (·.account == a)

/-- The hired sets that name an account as idle account (R151). -/
def State.setsNaming (s : State) (a : AccountSlot) : Nat :=
  s.sets.toList.countP fun r =>
    match r with
    | some r => r.idle == a
    | none => false

/-- The amounts of a set's carried entries under an account: one at most (R68). -/
def carriedUnder (a : AccountSlot) (r : Option SetRec) : List Nat :=
  match r with
  | some r => (r.carried.filter fun p => p.1 == a).map (·.2)
  | none => []

/-- The amounts of all carried entries under an account, in slot order (R73, R151). -/
def State.carriedAll (s : State) (a : AccountSlot) : List Nat := s.sets.toList.flatMap (carriedUnder a)

/-- The account readout, 64 bytes (R151, R191). -/
def State.accountView (s : State) (a : AccountSlot) (r : Account) : List Byte :=
  be 4 r.code.toNat
    ++ byte (r.label.length + 32 * r.hold.toNat + 64 * r.saturated.toNat + 128 * r.statement.isSome.toNat)
    ++ (r.label ++ List.replicate 16 0).take 16
    ++ r.band.toList.flatMap (be 4)
    ++ be 6 r.energyAccrual ++ be 4 r.fuelShare ++ be 6 r.fuelAccrual
    ++ be 3 r.periodStart ++ be 2 r.nextStatement
    ++ be 2 (1024 * s.feedersNaming a + 32 * s.setsNaming a + (s.carriedAll a).length)
    ++ be 4 (min max32 (s.carriedAll a).sum)

/-- QUERY_ACCOUNT (R151). -/
def execQueryAccount (slot : Byte) (s : State) : Host.Outcome State Fault Refusal :=
  serve s do
    let a ← indexOperand 64 slot
    let r ← openSlot s a
    .ok ⟨.ok, s.accountView a r, s⟩

/-- FIND_ACCOUNT (R150). -/
def execFindAccount (code : BitVec 32) (s : State) : Host.Outcome State Fault Refusal :=
  serve s <|
    match s.slotOfCode code with
    | some a => .ok ⟨.ok, byte a.val, s⟩
    | none => .error .noRecord

/-- The statement of an account settled at a minute (R161). -/
def Account.settle (r : Account) (minute : Nat) : Statement where
  number := r.nextStatement
  periodStart := r.periodStart
  periodEnd := minute
  band := r.band
  fuel := r.fuelShare
  energyCents := (r.energyAccrual + 5000) / 10000
  fuelCents := (r.fuelAccrual + 500) / 1000
  totalCents := (r.energyAccrual + 5000) / 10000 + (r.fuelAccrual + 500) / 1000
  saturated := r.saturated

/-- The account's record after its settlement (R162). -/
def Account.settled (r : Account) (minute : Nat) : Account :=
  { r with
    statement := some (r.settle minute)
    band := Vector.replicate 4 0
    energyAccrual := 0
    fuelShare := 0
    fuelAccrual := 0
    saturated := false
    periodStart := minute
    nextStatement := if r.nextStatement = 65535 then 1 else r.nextStatement + 1 }

/-- SETTLE_ACCOUNT (R160, R161, R162). -/
def execSettleAccount (slot : Byte) (s : State) : Host.Outcome State Fault Refusal :=
  serve s do
    let a ← indexOperand 64 slot
    let r ← openSlot s a
    require (!r.hold) .held
    require r.statement.isNone .pending
    require s.clock.valid .noClock
    let st := r.settle s.clock.minute
    .ok ⟨.ok, byte a.val ++ be 2 st.number ++ be 5 st.energyCents ++ be 5 st.fuelCents ++ be 5 st.totalCents,
      s.putAccount a (some (r.settled s.clock.minute))⟩

/-- The statement readout, 49 bytes (R163, R191). -/
def statementBytes (a : AccountSlot) (code : BitVec 32) (st : Statement) : List Byte :=
  byte a.val ++ be 4 code.toNat ++ be 2 st.number ++ be 3 st.periodStart ++ be 3 st.periodEnd
    ++ st.band.toList.flatMap (be 4) ++ be 4 st.fuel
    ++ be 5 st.energyCents ++ be 5 st.fuelCents ++ be 5 st.totalCents ++ byte st.saturated.toNat

/-- FETCH_STATEMENT (R163). -/
def execFetchStatement (slot : Byte) (s : State) : Host.Outcome State Fault Refusal :=
  serve s do
    let a ← indexOperand 64 slot
    let r ← openSlot s a
    match r.statement with
    | none => .error .noRecord
    | some st => .ok ⟨.ok, statementBytes a r.code st, s⟩

/-- RELEASE_STATEMENT (R164). -/
def execReleaseStatement (slot : Byte) (s : State) : Host.Outcome State Fault Refusal :=
  serve s do
    let a ← indexOperand 64 slot
    let r ← openSlot s a
    match r.statement with
    | none => .error .noRecord
    | some st =>
      .ok ⟨.ok, byte a.val ++ be 2 st.number, s.putAccount a (some { r with statement := none })⟩

/-- Every running total of an account is 0 (R147, R152). -/
def Account.unused (r : Account) : Bool :=
  r.band.toList.all (· == 0) && r.energyAccrual == 0 && r.fuelShare == 0 && r.fuelAccrual == 0

/-- A set's record after an account is retired: its entry moves into the carried overflow (R73). -/
def SetRec.dropAccount (r : SetRec) (a : AccountSlot) : SetRec :=
  { r with
    carried := r.carried.filter fun p => p.1 != a
    overflow := satAdd max32 r.overflow (carriedUnder a (some r)).sum }

/-- RETIRE_ACCOUNT (R73, R152, R153). -/
def execRetireAccount (slot : Byte) (s : State) : Host.Outcome State Fault Refusal :=
  serve s do
    let a ← indexOperand 64 slot
    require (a.val != 0) .range
    let r ← openSlot s a
    require (!r.hold) .held
    require r.statement.isNone .pending
    require r.unused .unsettled
    require (s.feedersNaming a == 0 && s.setsNaming a == 0) .inUse
    let moved := s.carriedAll a
    let s' : State := { s with sets := s.sets.map (Option.map (·.dropAccount a)) }
    .ok ⟨.ok, byte a.val ++ be 4 r.code.toNat ++ byte moved.length ++ be 4 (min max32 moved.sum),
      s'.putAccount a none⟩

/-- The number of accounts held (R165). -/
def State.heldCount (s : State) : Nat :=
  s.accounts.toList.countP fun r =>
    match r with
    | some r => r.hold
    | none => false

/-- PLACE_HOLD (R165). -/
def execPlaceHold (slot : Byte) (s : State) : Host.Outcome State Fault Refusal :=
  serve s do
    let a ← indexOperand 64 slot
    let r ← openSlot s a
    let s' := s.putAccount a (some { r with hold := true })
    .ok ⟨.ok, byte a.val ++ byte s'.heldCount, s'⟩

/-- RELEASE_ALL_HOLDS (R166). -/
def execReleaseAllHolds (s : State) : Host.Outcome State Fault Refusal :=
  serve s <|
    .ok ⟨.ok, byte s.heldCount,
      { s with accounts := s.accounts.map (Option.map fun r => { r with hold := false }) }⟩

end Sys2Proof.Machine
end

