-- ==== Sys2Proof/Machine/Curves.lean ====
section
/-! DEFINITION. The Curve Store's commands (chapter 2.1). -/

namespace Sys2Proof.Machine

/-- The report of the staging a Begin Curve discards, FFh twice when there is none (R26). -/
def discardedBytes (g : Option Staging) : List Byte :=
  match g with
  | some g => if g.points.isEmpty then [0xFF, 0xFF] else byte g.curve.val ++ byte g.points.length
  | none => [0xFF, 0xFF]

/-- BEGIN_CURVE (R26). -/
def execBeginCurve (curve : Byte) (s : State) : Host.Outcome State Fault Refusal :=
  serve s do
    let c ← indexOperand 6 curve
    .ok ⟨.ok, byte c.val ++ discardedBytes s.staging, { s with staging := some ⟨c, []⟩ }⟩

/-- The value stored for a point: brought down to 250,000, then raised to the point before (R27). -/
def stagedValue (points : List Nat) (v : Nat) : Nat := max (min v 250000) (points.getLast?.getD 0)

/-- Eleven points as a curve's live points. -/
def livePoints (points : List Nat) : Vector Nat 11 := Vector.ofFn fun k => points.getD k.val 0

/-- LOAD_CURVE_POINT (R27), with the completion of the curve at the eleventh point (R28). -/
def execLoadCurvePoint (value : BitVec 32) (s : State) : Host.Outcome State Fault Refusal :=
  serve s <|
    match s.staging with
    | none => .error .state
    | some g =>
      let v := stagedValue g.points value.toNat
      let points := g.points ++ [v]
      let complete := decide (11 ≤ points.length)
      .ok
        { status := clampedIf (v != value.toNat)
          data := byte g.curve.val ++ byte g.points.length ++ be 3 v ++ byte complete.toNat
          state :=
            if complete then
              { s with curves := s.curves.set g.curve ⟨livePoints points, true⟩, staging := none }
            else { s with staging := some ⟨g.curve, points⟩ } }

/-- The staging open for a curve, if there is one (R29). -/
def State.stagingFor (s : State) (c : CurveNo) : Option (List Nat) :=
  match s.staging with
  | some g => if g.curve = c then some g.points else none
  | none => none

/-- QUERY_CURVE (R29, R192). DEDUCED: the point index reads 0 while the staging buffer is closed or open for
another curve (notes/assumptions/29.md). -/
def execQueryCurve (curve : Byte) (s : State) : Host.Outcome State Fault Refusal :=
  serve s do
    let c ← indexOperand 6 curve
    let live := s.curves[c]
    let g := s.stagingFor c
    let staged := g.getD []
    .ok ⟨.ok,
      byte (live.complete.toNat + 2 * g.isSome.toNat + 16 * staged.length)
        ++ live.points.toList.flatMap (be 3) ++ staged.flatMap (be 3), s⟩

end Sys2Proof.Machine
end

