-- ==== Sys2Proof/Machine/Fuel.lean ====
section
/-! DEFINITION. The Fuel Metering Unit: deliveries, permits and supplier dockets (chapter 7). -/

namespace Sys2Proof.Machine

/-- REGISTER_SUPPLIER (R139). -/
def execRegisterSupplier (supplier : Byte) (docket : BitVec 24) (s : State) :
    Host.Outcome State Fault Refusal :=
  serve s do
    let n ← indexOperand 4 supplier
    require (1 ≤ docket.toNat && docket.toNat ≤ 999999) .range
    require ((s.supplier n).docket == .unregistered) .exists
    .ok ⟨.ok, byte n.val ++ be 3 docket.toNat, s.putSupplier n ⟨.next docket.toNat, 0, 0⟩⟩

/-- The state of the ticket a position holds against a supplier, 00h when it holds none (R144). -/
def Position.ticketAgainst (p : Position) (n : SupplierNo) : Nat :=
  match p.ticket with
  | some t => if t.supplier = n then ticketCode (some t) else 0
  | none => 0

/-- QUERY_SUPPLIER (R144). -/
def execQuerySupplier (supplier : Byte) (s : State) : Host.Outcome State Fault Refusal :=
  serve s do
    let n ← indexOperand 4 supplier
    let r := s.supplier n
    .ok ⟨.ok,
      byte n.val ++ byte (r.docket != .unregistered).toNat ++ be 3 r.docket.code ++ be 3 r.closed
        ++ be 4 r.delivered
        ++ byte ((s.position 0).ticketAgainst n) ++ byte ((s.position 1).ticketAgainst n)
        ++ byte ((s.position 2).ticketAgainst n) ++ byte ((s.position 3).ticketAgainst n), s⟩

/-- A ticket as Open Ticket makes it (R127). -/
def Ticket.opened (i : SetSlot) (n : SupplierNo) (ordered : Nat) : Ticket where
  state := .ready
  set := i
  supplier := n
  ordered := ordered
  remaining := ordered
  delivered := 0
  liftMark := 0
  credited := 0
  lifts := 0
  preset := false
  overrun := false

/-- OPEN_TICKET (R126, R127). -/
def execOpenTicket (position : Byte) (slot : Byte) (supplier : Byte) (ordered : BitVec 32) (s : State) :
    Host.Outcome State Fault Refusal :=
  serve s do
    let p ← indexOperand 4 position
    let i ← slotOperand slot
    let n ← indexOperand 4 supplier
    require (s.position p).ticket.isNone .state
    let r ← hiredSet s i
    let docket := (s.supplier n).docket
    require (docket != .unregistered) .noSupplier
    require (docket != .exhausted) .full
    let room := r.capacity - r.tank
    let stored := min ordered.toNat room
    .ok
      { status := clampedIf (room < ordered.toNat)
        data := byte p.val ++ byte (slotCode (some i)) ++ byte n.val ++ be 3 stored ++ be 3 room
          ++ be 3 docket.code
        state := s.putPosition p { s.position p with ticket := some (Ticket.opened i n stored) } }

/-- SET_PERMIT_MODE (R137). -/
def execSetPermitMode (position : Byte) (mode : Byte) (s : State) : Host.Outcome State Fault Refusal :=
  serve s do
    let p ← indexOperand 4 position
    let m ← permitModeOperand mode
    let old := s.position p
    let answer (q : Position) : List Byte := byte p.val ++ byte q.mode.code ++ byte q.permitOn.toNat
    if old.mode = .forceOn && m = .auto then .ok ⟨.sequence, answer old, s⟩
    else .ok ⟨.ok, answer { old with mode := m }, s.putPosition p { old with mode := m }⟩

/-- The figures a Close Ticket refused with STATE, FULL or DOCKET carries (R141, R182). -/
def State.closeRefusal (s : State) (p : PositionNo) : List Byte :=
  match (s.position p).ticket with
  | none => byte p.val ++ be 3 0 ++ byte 0
  | some t => byte p.val ++ be 3 (s.supplier t.supplier).docket.code ++ byte (ticketCode (some t))

/-- The docket after one is used; closing 999,999 exhausts the counter (R138, R140). -/
def Docket.advance (n : Nat) : Docket := if n = 999999 then .exhausted else .next (n + 1)

/-- The supplier's record after a ticket is closed against docket `n` (R140). -/
def Supplier.closedTicket (r : Supplier) (n : Nat) (t : Ticket) : Supplier where
  docket := Docket.advance n
  closed := r.closed + 1
  delivered := satAdd max32 r.delivered t.credited

/-- A ticket's markers as a byte (R191, R193). -/
def Ticket.markers (t : Ticket) : Nat := t.preset.toNat + 2 * t.overrun.toNat

/-- CLOSE_TICKET (R140, R141). -/
def execCloseTicket (position : Byte) (docket : BitVec 24) (s : State) :
    Host.Outcome State Fault Refusal :=
  serve s do
    let p ← indexOperand 4 position
    require (1 ≤ docket.toNat && docket.toNat ≤ 999999) .range
    match (s.position p).ticket with
    | none => .ok ⟨.state, s.closeRefusal p, s⟩
    | some t =>
      let r := s.supplier t.supplier
      if t.state = .dispensing then .ok ⟨.state, s.closeRefusal p, s⟩
      else if r.docket = .exhausted then .ok ⟨.full, s.closeRefusal p, s⟩
      else if r.docket = .next docket.toNat then
        let r' := r.closedTicket docket.toNat t
        .ok ⟨.ok,
          byte p.val ++ byte (slotCode (some t.set)) ++ byte t.supplier.val ++ be 3 docket.toNat
            ++ be 3 t.ordered ++ beInt 4 t.remaining ++ be 3 t.delivered ++ be 3 t.credited
            ++ byte t.lifts ++ byte t.markers ++ be 3 r'.docket.code,
          (s.putSupplier t.supplier r').putPosition p { s.position p with ticket := none }⟩
      else .ok ⟨.docket, s.closeRefusal p, s⟩

/-- CANCEL_TICKET (R142). -/
def execCancelTicket (position : Byte) (s : State) : Host.Outcome State Fault Refusal :=
  serve s do
    let p ← indexOperand 4 position
    match (s.position p).ticket with
    | none => .error .state
    | some t =>
      require (t.state == .ready) .state
      .ok ⟨.ok, byte p.val ++ byte (slotCode (some t.set)) ++ byte t.supplier.val,
        s.putPosition p { s.position p with ticket := none }⟩

/-- The ticket part of Query Position, bytes 6 to 26; an absent ticket reads 00h (R189, R191). -/
def ticketBytes : Option Ticket → List Byte
  | none => be 21 0
  | some t =>
    byte (ticketCode (some t)) ++ byte t.markers ++ byte (slotCode (some t.set)) ++ byte t.supplier.val
      ++ be 3 t.ordered ++ beInt 4 t.remaining ++ be 3 t.delivered ++ be 3 t.liftMark
      ++ be 3 t.credited ++ byte t.lifts

/-- QUERY_POSITION (R143, R191), 27 bytes. -/
def execQueryPosition (position : Byte) (s : State) : Host.Outcome State Fault Refusal :=
  serve s do
    let p ← indexOperand 4 position
    let r := s.position p
    .ok ⟨.ok,
      byte p.val ++ byte r.mode.code
        ++ byte (r.permitOn.toNat + 2 * (s.pins.nozzle[p]).toNat + 4 * s.straps.fuelFine.toNat)
        ++ be 3 r.stray ++ ticketBytes r.ticket, s⟩

/-- The fuel pulse weight, from the strap as last sampled (R125). -/
def State.fuelWeight (s : State) : Nat := if s.straps.fuelFine then 10 else 100

/-- A ticket after a pulse of `w` mL (R129, R130). -/
def Ticket.pulsed (t : Ticket) (w : Nat) : Ticket :=
  let left := t.remaining - (w : Int)
  { t with
    delivered := satAdd max24 t.delivered w
    remaining := max (-100000) left
    preset := t.preset || (decide (0 < t.remaining) && decide (left ≤ 0))
    overrun := t.overrun || decide (left ≤ -100000) }

/-- FUEL_PULSE (R129, R130, R131). -/
def execFuelPulse (p : PositionNo) (s : State) : Host.Outcome State Fault Refusal :=
  .next <|
    let w := s.fuelWeight
    let r := s.position p
    let stray := (s.putPosition p { r with stray := satAdd max24 r.stray w }).raise .strayFuel
    match r.ticket with
    | none => stray
    | some t =>
      if t.state = .dispensing then
        let t' := t.pulsed w
        ((s.putPosition p { r with ticket := some t' }).raiseIf
          (decide (0 < t.remaining) && decide (t'.remaining ≤ 0)) .presetReached).raiseIf
          (!t.overrun && t'.overrun) .overrunLimit
      else stray

/-- A ticket after a lift (R128). -/
def Ticket.lifted (t : Ticket) : Ticket :=
  { t with state := .dispensing, lifts := satAdd 255 t.lifts 1, liftMark := t.delivered }

/-- The nozzle line takes a level (R125). -/
def State.setNozzle (s : State) (p : PositionNo) (level : Bool) : State :=
  { s with pins := { s.pins with nozzle := s.pins.nozzle.set p level } }

/-- NOZZLE_LIFT (R128). A line that is active already makes no change (R125). -/
def execNozzleLift (p : PositionNo) (s : State) : Host.Outcome State Fault Refusal :=
  .next <|
    if s.pins.nozzle[p] then s
    else
      let s := s.setNozzle p true
      match (s.position p).ticket with
      | none => s
      | some t =>
        if t.state = .dispensing then s
        else s.putPosition p { s.position p with ticket := some t.lifted }

/-- The run of a dispensing ticket that a hang-up credits (R132). -/
def Ticket.increment (t : Ticket) : Nat := t.delivered - t.liftMark

/-- A ticket after a hang-up (R132). -/
def Ticket.hungUp (t : Ticket) : Ticket :=
  { t with state := .paused, credited := t.credited + t.increment }

/-- A set's record after a credit of `inc` mL (R8, R10, R132). -/
def SetRec.creditFuel (r : SetRec) (inc : Nat) : SetRec :=
  { r with
    tank := min (r.tank + inc) r.capacity
    credited := satAdd max32 r.credited inc
    overfill := satAdd max32 r.overfill (r.tank + inc - r.capacity) }.withRuntime.withFuelConds

/-- The credit of a hang-up at a set's record; an increment of 0 changes nothing (R132). -/
def State.creditTank (s : State) (i : SetSlot) (inc : Nat) : State :=
  match s.set? i with
  | none => s
  | some r =>
    if inc = 0 then s
    else (s.writeSet i r (r.creditFuel inc)).raiseIf (decide (r.capacity < r.tank + inc)) .overfill

/-- HANG_UP (R132, R133). A line that is inactive already makes no change (R125). -/
def execHangUp (p : PositionNo) (s : State) : Host.Outcome State Fault Refusal :=
  .next <|
    if !s.pins.nozzle[p] then s
    else
      let s := s.setNozzle p false
      match (s.position p).ticket with
      | none => s
      | some t =>
        if t.state = .dispensing then
          ((s.putPosition p { s.position p with ticket := some t.hungUp }).creditTank t.set
            t.increment).raise .nozzleDown
        else s

end Sys2Proof.Machine
end

