-- ==== Sys2Proof/Machine/SequencerOps.lean ====
section
/-! DEFINITION. The Transfer Sequencer's shared operations (chapter 6): the end of a transfer, the
beginning of each phase with the test of its condition, the feedback test, and the take. None of them
scans the queue; the scan that follows an end is made by the events (QueueOps). -/

namespace Sys2Proof.Machine

/-- The set bound to a side of a feeder (R104). -/
def State.boundSet (s : State) (ch : Channel) (d : Side) : Option SetSlot := (s.feeder ch).bound.get d

/-- The sequencer's last-outcome record of a transfer that ends now (R121). -/
def State.outcomeOf (s : State) (t : Transfer) (o : TransferOutcome) (r : Reason) : LastOutcome where
  feeder := t.feeder
  fromSide := t.fromSide
  fromSet := t.fromSide.bind (s.boundSet t.feeder)
  target := t.target
  targetSet := s.boundSet t.feeder t.target
  outcome := o
  reason := r
  phase := t.phase
  releasing := t.releasing
  minute := s.now
  elapsed := t.elapsed

/-- A transfer ends (R113, steps 1 to 6): the feeder takes its end state with both drives open if that
is FAULT, both records are written, the flags are raised, the sequencer becomes IDLE and the monitor
watches the feeder again. -/
def State.endTransfer (s : State) (t : Transfer) (st : FeederState) (cause : FaultCause)
    (o : TransferOutcome) (r : Reason) (flags : List Flag) : State :=
  let s := if st = .fault then s.driveOpen t.feeder else s
  let s := s.putFeeder t.feeder { s.feeder t.feeder with state := st, cause := cause }
  let s := s.recordLast t.feeder t.target o r
  let s : State := { s with lastOutcome := some (s.outcomeOf t o r), transfer := none }
  (flags.foldl State.raise s).rewatch t.feeder 0

/-- DEAD begins, for the transfer's dead time (R107, R109). -/
def State.beginDead (s : State) (t : Transfer) : State :=
  { s with transfer := some { t with phase := .dead, deadline := t.deadTime * 1000 } }

/-- OPENING begins: the old side is driven open; a contact that reads open already ends the phase (R107). -/
def State.beginOpening (s : State) (t : Transfer) (d : Side) : State :=
  let s := s.driveSide t.feeder d false
  let t := { t with phase := .opening, deadline := s.params.openTimeout }
  if s.fbClosed t.feeder d then { s with transfer := some t } else s.beginDead t

/-- The target contactor is proven closed: DONE (R110, R111). -/
def State.endDone (s : State) (t : Transfer) : State :=
  s.endTransfer t (.on t.target) .none .done .none [.transferDone]

/-- CLOSING begins: the target side is driven closed; a contact that reads closed already ends the
transfer (R106, R110, R111). -/
def State.beginClosing (s : State) (t : Transfer) : State :=
  let s := s.driveSide t.feeder t.target true
  let t := { t with phase := .closing, releasing := false, deadline := s.params.closeTimeout }
  if s.fbClosed t.feeder t.target then s.endDone t else { s with transfer := some t }

/-- The target contactor is proven open again after a failed close from DARK (R111). -/
def State.endReleased (s : State) (t : Transfer) : State :=
  s.endTransfer t .dark .none .failed .closeTimeout [.transferFailed]

/-- A feedback change that makes a side read closed comes at the same moment: it waits in the queue behind
the event in hand, for the commands of the queue take no time (notes/assumptions/1.md). DEDUCED from R114;
notes/assumptions/31.md. -/
def State.comesClosed (s : State) (ch : Channel) (d : Side) : Bool :=
  s.pending.contains (.feedbackChange ch d (!s.straps.fbLow))

/-- The releasing part of CLOSING begins: the target side is driven open. A feedback that reads open ends the
transfer at once (R111), but for one whose change to closed comes at the same moment as the deadline: there
the releasing part stands until the feedback reads open again (R114; notes/assumptions/31.md). -/
def State.beginReleasing (s : State) (t : Transfer) : State :=
  let s := s.driveSide t.feeder t.target false
  let t := { t with releasing := true, deadline := s.params.openTimeout }
  if s.fbClosed t.feeder t.target || s.comesClosed t.feeder t.target then { s with transfer := some t }
  else s.endReleased t

/-- The old side is closed and the target side open again (R112). -/
def State.fallbackProven (s : State) (t : Transfer) (d : Side) : Bool :=
  s.fbClosed t.feeder d && !s.fbClosed t.feeder t.target

/-- A fallback is proven: the feeder is back on its old side (R112). -/
def State.endFallback (s : State) (t : Transfer) (d : Side) : State :=
  s.endTransfer t (.on d) .none .failed
    (match t.fallback with
     | some r => r.reason
     | none => .none)
    [.transferFailed]

/-- FALLBACK begins: the target side is driven open, then the old side closed (R106, R112). -/
def State.beginFallback (s : State) (t : Transfer) (d : Side) (why : FallbackReason) : State :=
  let s := (s.driveSide t.feeder t.target false).driveSide t.feeder d true
  let t := { t with phase := .fallback, fallback := some why, deadline := s.params.closeTimeout }
  if s.fallbackProven t d then s.endFallback t d else { s with transfer := some t }

/-- The condition of the transfer's phase names the feedback of a side (R107, R110, R111, R112). -/
def Transfer.names (t : Transfer) (d : Side) : Bool :=
  match t.phase with
  | .opening => t.fromSide == some d
  | .dead => false
  | .closing => t.target == d
  | .fallback => true

/-- The sequencer tests its phase's condition (R106 to R112). -/
def State.testPhase (s : State) (t : Transfer) : State :=
  match t.phase, t.fromSide with
  | .opening, some d => if s.fbClosed t.feeder d then s else s.beginDead t
  | .opening, none => s
  | .dead, _ => s
  | .closing, _ =>
    if t.releasing then (if s.fbClosed t.feeder t.target then s else s.endReleased t)
    else (if s.fbClosed t.feeder t.target then s.endDone t else s)
  | .fallback, some d => if s.fallbackProven t d then s.endFallback t d else s
  | .fallback, none => s

/-- The transfer as the sequencer records it at the take (R105, step 1). -/
def Feeder.takenTransfer (f : Feeder) (ch : Channel) (target : Side) : Transfer where
  feeder := ch
  fromSide := f.closedSide
  target := target
  deadTime := f.deadTime
  phase := .opening
  releasing := false
  fallback := none
  deadline := 0
  elapsed := 0

/-- The sequencer takes a transfer (R105): the break flush, the feeder in TRANSFER with its monitor
cancelled, then OPENING from an ON feeder or CLOSING from a DARK one. -/
def State.take (s : State) (ch : Channel) (target : Side) : State :=
  let t := (s.feeder ch).takenTransfer ch target
  let s := s.flush ch
  let s := s.putFeeder ch
    { s.feeder ch with state := .transfer, cause := .none, watch := ⟨none, none⟩ }
  match t.fromSide with
  | some d => s.beginOpening t d
  | none => s.beginClosing t

/-- The deadline of a transfer in hand has run out. While RESET_N is low the transfer is held (R119). -/
def State.deadlineDue (s : State) : Option Transfer :=
  match s.transfer with
  | some t => if s.pins.resetN && t.deadline == 0 then some t else none
  | none => none

end Sys2Proof.Machine
end

