-- ==== Sys2Proof/Machine/QueueOps.lean ====
section
/-! DEFINITION. The Transfer Queue's shared operations (chapter 5): the precheck and wait reasons, the
scan and the hand-over, expiry, relief generation. -/

namespace Sys2Proof.Machine

/-- The headroom available to a feeder from a set: its own demand is left out of the committed load when
it is energised from that set (R96). -/
def State.headroomFor (s : State) (ch : Channel) (i : SetSlot) (r : SetRec) : Int :=
  s.headroom i r + (s.demandOn i ch : Int)

/-- The first of tests 1 to 5 of R97 that an order fails; none when it passes them all (R95). A target
that names no hired set cannot occur (R83) and counts as not running. -/
def State.waitReason (s : State) (o : Order) : Option Wait :=
  if !s.clock.valid || decide (s.clock.minute < o.startMin) then some .notDue
  else
    match s.boundSet o.feeder o.target with
    | none => some .notRunning
    | some i =>
      match s.set? i with
      | none => some .notRunning
      | some r =>
        if !r.running then some .notRunning
        else if r.conds.dry then some .targetDry
        else if s.headroomFor o.feeder i r < ((s.feeder o.feeder).demand : Int) then some .noHeadroom
        else if r.runtime < s.params.minRuntime then some .lowRuntime
        else none

/-- A hand-over is possible: the sequencer is IDLE, the mode ACTIVE, RESET_N high and the feeder's open
check not running (R100). -/
def State.canHandOver (s : State) (ch : Channel) : Bool :=
  s.transfer.isNone && s.mode == .active && s.pins.resetN && (s.feeder ch).openCheck.isNone

/-- The wait reason an order is left with (R97); an eligible one that is not handed over waits with
SEQUENCER_BUSY. -/
def State.leftWaiting (s : State) (o : Order) : Order :=
  match s.waitReason o with
  | some w => { o with wait := w }
  | none => if s.clock.minute < o.endMin then { o with wait := .sequencerBusy } else o

/-- One pass over the orders from the front (R98, R99): the orders that stay with their wait reasons,
and the state after, in which at most one order has been handed over (`handed` says that one has). -/
def State.scanPass (s : State) (handed : Bool) : List Order → State × List Order
  | [] => (s, [])
  | o :: rest =>
    if !handed && (s.waitReason o).isNone && decide (s.clock.minute < o.endMin) && s.canHandOver o.feeder then
      (s.take o.feeder o.target).scanPass true rest
    else
      let r := s.scanPass handed rest
      (r.1, s.leftWaiting o :: r.2)

/-- The Transfer Queue scans, once, with at most one hand-over (R98, R99). A transfer handed over that
ends within its take makes no second scan: it ends in the event that scans, and a queue with several
causes in one event scans once (R98; DEDUCED against R113 step 7, notes/assumptions/11.md). -/
def State.scan (s : State) : State :=
  let r := s.scanPass false s.queue
  { r.1 with queue := r.2 }

/-- The scan that follows the end of a transfer; a transfer still in hand makes none (R98, R113). -/
def State.scanIfIdle (s : State) : State := if s.transfer.isNone then s.scan else s

/-- An order's window has ended at a minute (R89). -/
def Order.ended (o : Order) (minute : Nat) : Bool := decide (o.endMin ≤ minute)

/-- One order expires: its feeder records EXPIRED, WINDOW_ENDED and the minute, and ORDER_EXPIRED is
raised (R89). -/
def State.expireOne (s : State) (o : Order) : State :=
  (s.recordLast o.feeder o.target .expired .windowEnded).raise .orderExpired

/-- The queue removes every order whose end minute has been reached, front to back (R89, R90). -/
def State.expireOrders (s : State) : State :=
  let out := s.queue.filter (·.ended s.clock.minute)
  out.foldl State.expireOne
    { s with queue := s.queue.filter fun o => !o.ended s.clock.minute }

/-- A feeder qualifies for relief from one set to another (R92). -/
def State.qualifies (s : State) (i r : SetSlot) (ch : Channel) : Bool :=
  s.active ch &&
    match (s.feeder ch).state with
    | .on d => (s.feeder ch).bound.get d == some i && (s.feeder ch).bound.get d.other == some r
    | _ => false

/-- The relief order for a qualifying feeder (R93, step 3). -/
def State.reliefOrder (s : State) (ch : Channel) (window : Nat) : Order where
  feeder := ch
  target :=
    match (s.feeder ch).state with
    | .on d => d.other
    | _ => .A
  startMin := s.clock.minute
  endMin := min (s.clock.minute + window) lastMinute
  origin := .relief
  wait := .notDue

/-- Relief generation over the qualifying feeders that have no order, in channel order, with the clock
valid (R93): each gets an order until the queue is full, or the minute is the last. -/
def State.placeRelief (s : State) (window : Nat) : List Channel → State
  | [] => s
  | ch :: rest =>
    if 8 ≤ s.queue.length || s.clock.minute == lastMinute then s.raise .reliefDropped
    else
      State.placeRelief { s with queue := insertOrder (s.reliefOrder ch window) s.queue } window rest

/-- Relief generation for a set (R92, R93, R94). -/
def State.generateRelief (s : State) (i : SetSlot) (relief : Option SetSlot) (window : Nat) : State :=
  match relief with
  | none => s
  | some r =>
    let wanting := channels.filter fun ch => s.qualifies i r ch && (s.orderFor ch).isNone
    if s.clock.valid then s.placeRelief window wanting
    else s.raiseIf (!wanting.isEmpty) .reliefDropped

end Sys2Proof.Machine
end

