-- ==== Sys2Proof/Machine/Feeders.lean ====
section
/-! DEFINITION. The Feeder Bank's commands and line events (chapter 3). -/

namespace Sys2Proof.Machine

/-- An active channel, 0 to 15: RANGE above 15, NO_RECORD for an inactive one (R45). -/
def channelOperand (s : State) (b : Byte) : Except Status Channel := do
  let ch ← indexOperand 16 b
  require (s.active ch) .noRecord
  .ok ch

/-- A queued order for the feeder targets the side (R55). -/
def State.orderTargets (s : State) (ch : Channel) (d : Side) : Bool :=
  s.queue.any fun o => o.feeder == ch && o.target == d

/-- BIND_SIDE (R55). -/
def execBindSide (channel : Byte) (side : Byte) (slot : Byte) (s : State) :
    Host.Outcome State Fault Refusal :=
  serve s do
    let ch ← indexOperand 16 channel
    let d ← sideOperand side
    let i ← slotOrNoneOperand slot
    require (s.active ch) .noRecord
    require (i.all fun j => (s.set? j).isSome) .noRecord
    let f := s.feeder ch
    require (f.closedSide != some d) .inUse
    require (f.state != .transfer) .inUse
    require (!s.orderTargets ch d) .inUse
    .ok ⟨.ok, byte ch.val ++ byte (sideCode (some d)) ++ byte (slotCode i),
      s.putFeeder ch { f with bound := f.bound.set d i }⟩

/-- ASSIGN_FEEDER_ACCOUNT (R56). -/
def execAssignFeederAccount (channel : Byte) (account : Byte) (s : State) :
    Host.Outcome State Fault Refusal :=
  serve s do
    let ch ← indexOperand 16 channel
    let a ← indexOperand 64 account
    require (s.active ch) .noRecord
    let _ ← openSlot s a
    let s' := s.flush ch
    .ok ⟨.ok, byte ch.val ++ byte a.val ++ flushBytes (s.flushMoves ch),
      s'.putFeeder ch { s'.feeder ch with account := a }⟩

/-- SET_FEEDER_PARAMETERS (R57). -/
def execSetFeederParameters (channel : Byte) (weight : Byte) (deadTime : Byte) (s : State) :
    Host.Outcome State Fault Refusal :=
  serve s do
    let ch ← indexOperand 16 channel
    let w := weight.toNat
    require (w == 1 || w == 10 || w == 100) .range
    require (s.active ch) .noRecord
    let dt := clampTo 2 30 deadTime.toNat
    .ok ⟨clampedIf (dt != deadTime.toNat), byte ch.val ++ byte w ++ byte dt,
      s.putFeeder ch { s.feeder ch with weight := w, deadTime := dt }⟩

/-- A feeder opened by command becomes DARK; its open check starts if a feedback reads closed, and one
that runs already keeps its deadline (R58, step 5). -/
def State.darkWithCheck (s : State) (ch : Channel) : State :=
  let check := if s.fbBothOpen ch then none else some ((s.feeder ch).openCheck.getD s.params.openTimeout)
  let s := s.putFeeder ch { s.feeder ch with state := .dark, cause := .none, openCheck := check }
  s.rewatch ch 0

/-- Open Feeder in a state other than FAULT, without the scan (R58, R115). -/
def State.openByCommand (s : State) (ch : Channel) : State :=
  let s := (s.flush ch).driveOpen ch
  let s :=
    match s.transfer with
    | some t => if t.feeder = ch then s.endTransfer t .dark .none .cancelled .openedByCommand [] else s
    | none => s
  (s.removeOrder ch .cancelled .openedByCommand).darkWithCheck ch

/-- OPEN_FEEDER (R58, R115). The end of a transfer is followed by a scan. -/
def execOpenFeeder (channel : Byte) (s : State) : Host.Outcome State Fault Refusal :=
  serve s do
    let ch ← channelOperand s channel
    let f := s.feeder ch
    let s' :=
      match f.state with
      | .fault => s
      | .transfer => (s.openByCommand ch).scan
      | _ => s.openByCommand ch
    let moved := if f.state = .fault then none else s.flushMoves ch
    .ok ⟨.ok, byte ch.val ++ byte (s'.feeder ch).state.code ++ byte (s'.feeder ch).openCheck.isSome.toNat
      ++ flushBytes moved, s'⟩

/-- The two feedback readings of a feeder as a byte (R193). -/
def State.feedbackByte (s : State) (ch : Channel) : Nat :=
  (s.fbClosed ch .A).toNat + 2 * (s.fbClosed ch .B).toNat

/-- RECONCILE_FEEDER (R60). -/
def execReconcileFeeder (channel : Byte) (s : State) : Host.Outcome State Fault Refusal :=
  serve s do
    let ch ← channelOperand s channel
    let f := s.feeder ch
    let answer (f : Feeder) : List Byte := byte ch.val ++ byte f.state.code ++ byte (s.feedbackByte ch)
    if f.state = .fault && s.fbBothOpen ch then
      let s' := (s.putFeeder ch { f with state := .dark, cause := .none }).rewatch ch 0
      .ok ⟨.ok, answer (s'.feeder ch), s'.scan⟩
    else .ok ⟨.state, answer f, s⟩

/-- The line byte of Query Feeder (R191). -/
def State.feederLines (s : State) (ch : Channel) : Nat :=
  (s.feeder ch).drive.a.toNat + 2 * (s.feeder ch).drive.b.toNat + 4 * s.feedbackByte ch
    + 16 * (s.disagrees ch .A).toNat + 32 * (s.disagrees ch .B).toNat
    + 64 * (s.feeder ch).openCheck.isSome.toNat

/-- The feeder readout, 27 bytes (R61, R191). -/
def State.feederView (s : State) (ch : Channel) : List Byte :=
  let f := s.feeder ch
  byte ch.val ++ byte (slotCode f.bound.a) ++ byte (slotCode f.bound.b)
    ++ byte f.account.val ++ byte f.weight ++ byte f.deadTime
    ++ byte f.state.code ++ byte f.cause.code ++ byte (slotCode f.energisedSet)
    ++ byte (s.feederLines ch)
    ++ be 3 f.interval ++ be 4 f.lifetime ++ be 4 f.demand ++ lastTransferBytes f.last

/-- QUERY_FEEDER (R61). -/
def execQueryFeeder (channel : Byte) (s : State) : Host.Outcome State Fault Refusal :=
  serve s do
    let ch ← channelOperand s channel
    .ok ⟨.ok, s.feederView ch, s⟩

/-- ENERGY_PULSE (R50, R51): ignored on an inactive channel (R45, R50, R66). DEDUCED, unsafe: so is a pulse
that comes at the same moment as the channel's strap deactivation and is taken after it, for which R52's flush
row says that it stays in the feeder's interval energy (notes/assumptions/28.md). -/
def execEnergyPulse (ch : Channel) (s : State) : Host.Outcome State Fault Refusal :=
  .next <|
    if s.active ch then
      let f := s.feeder ch
      (s.putFeeder ch
        { f with
          interval := satAdd max24 f.interval f.weight
          lifetime := satAdd max32 f.lifetime f.weight }).billEnergy f.account f.weight
    else s

/-- A feedback line takes a level (R49). -/
def State.setFeedback (s : State) (ch : Channel) (d : Side) (level : Bool) : State :=
  { s with pins := { s.pins with
      feedback := s.pins.feedback.set d ((s.pins.feedback.get d).set ch level) } }

/-- A running open check ends when both feedbacks read open, and the queue scans (R59). -/
def State.passOpenCheck (s : State) (ch : Channel) : State :=
  ((s.putFeeder ch { s.feeder ch with openCheck := none }).rewatch ch 0).scan

/-- What a feeder's block makes of a feedback change on one of its sides: the sequencer tests its phase if the
phase's condition names that feedback, unless RESET_N holds it (R106, R119), an open check may end (R59), the
monitor starts or cancels timers (R62). -/
def State.feedbackSeen (s : State) (ch : Channel) (d : Side) : State :=
  match (s.feeder ch).state, s.transfer with
  | .transfer, some t =>
    if t.feeder = ch && s.pins.resetN && t.names d then (s.testPhase t).scanIfIdle else s
  | _, _ =>
    if (s.feeder ch).openCheck.isSome then (if s.fbBothOpen ch then s.passOpenCheck ch else s)
    else s.rewatch ch 0

/-- FEEDBACK_CHANGE (R49, R59, R62, R106). A line that has the level already makes no change; on an
inactive channel the change is ignored (R45). -/
def execFeedbackChange (ch : Channel) (d : Side) (level : Bool) (s : State) :
    Host.Outcome State Fault Refusal :=
  .next <|
    if (s.pins.feedback.get d)[ch] = level then s
    else
      let s := s.setFeedback ch d level
      if s.active ch then s.feedbackSeen ch d else s

/-- A side's disagreement has lasted longer than the close timeout in force (R62). -/
def State.watchDue (s : State) (ch : Channel) (d : Side) : Bool :=
  s.disagrees ch d &&
    match (s.feeder ch).watch.get d with
    | some ms => decide (s.params.closeTimeout < ms)
    | none => false

/-- DISAGREEMENT_TIMER_EXPIRY (R63). An expiry that is not due does not happen
(notes/assumptions/3.md). -/
def execDisagreementTimerExpiry (ch : Channel) (d : Side) (s : State) :
    Host.Outcome State Fault Refusal :=
  .next <|
    if s.watchDue ch d then
      s.faultFeeder ch (if (s.feeder ch).drive.get d then .unexpectedOpen else .unexpectedClose)
    else s

/-- OPEN_CHECK_DEADLINE (R59): a contact still closed makes the feeder FAULT with cause STUCK. -/
def execOpenCheckDeadline (ch : Channel) (s : State) : Host.Outcome State Fault Refusal :=
  .next <|
    if s.active ch && (s.feeder ch).openCheck == some 0 then
      if s.fbBothOpen ch then s.passOpenCheck ch else s.faultFeeder ch .stuck
    else s

end Sys2Proof.Machine
end

