-- ==== Sys2Proof/Machine/Orders.lean ====
section
/-! DEFINITION. The Transfer Queue's commands (chapter 5). -/

namespace Sys2Proof.Machine

/-- The place of a feeder's order in the queue, 0 at the front (R87). -/
def State.placeOf (s : State) (ch : Channel) : Nat := s.queue.findIdx (·.feeder == ch)

/-- The answer of Enqueue Order, from the queue as the scan left it (R87, R193). -/
def State.enqueueBytes (s : State) (ch : Channel) (d : Side) : List Byte :=
  byte ch.val ++ byte (sideCode (some d)) ++
    (match s.orderFor ch with
     | some o => [0] ++ byte (s.placeOf ch) ++ byte o.wait.code
     | none => [1, 0xFF, 0xFF])
    ++ byte s.queue.length

/-- ENQUEUE_ORDER (R86, R87). -/
def execEnqueueOrder (channel : Byte) (side : Byte) (startMin : BitVec 24) (endMin : BitVec 24)
    (s : State) : Host.Outcome State Fault Refusal :=
  serve s do
    let ch ← indexOperand 16 channel
    let d ← sideOperand side
    require (startMin.toNat ≤ lastMinute && endMin.toNat ≤ lastMinute) .range
    require s.clock.valid .noClock
    require (s.active ch) .noRecord
    let f := s.feeder ch
    require (f.state != .fault && f.state != .transfer) .state
    require (f.bound.get d).isSome .state
    require (f.closedSide != some d) .state
    require (startMin.toNat + 2 ≤ endMin.toNat && s.clock.minute < endMin.toNat) .range
    require (s.orderFor ch).isNone .exists
    require (s.queue.length < 8) .full
    let o : Order := ⟨ch, d, startMin.toNat, endMin.toNat, .operator, .notDue⟩
    let s' := ({ s with queue := insertOrder o s.queue } : State).scan
    .ok ⟨.ok, s'.enqueueBytes ch d, s'⟩

/-- CANCEL_ORDER (R88). -/
def execCancelOrder (channel : Byte) (s : State) : Host.Outcome State Fault Refusal :=
  serve s do
    let ch ← channelOperand s channel
    require ((s.transfer.map (·.feeder)) != some ch) .state
    match s.orderFor ch with
    | none => .error .noRecord
    | some o =>
      let s' := s.removeOrder ch .cancelled .hostCancel
      .ok ⟨.ok, byte ch.val ++ byte o.origin.code ++ byte (sideCode (some o.target))
        ++ byte s'.queue.length, s'⟩

/-- One order in Query Queue, 7 bytes (R192). -/
def State.orderBytes (s : State) (o : Order) : List Byte :=
  be 2 (4096 * o.feeder.val + 2048 * sideCode (some o.target)
      + 64 * slotCode (s.boundSet o.feeder o.target) + 32 * o.origin.code + o.wait.code)
    ++ be 5 (o.startMin * 2 ^ 20 + o.endMin)

/-- QUERY_QUEUE (R102, R192). -/
def execQueryQueue (s : State) : Host.Outcome State Fault Refusal :=
  serve s <|
    .ok ⟨.ok,
      byte s.queue.length
        ++ (match s.transfer with
            | some t => byte (128 + t.feeder.val)
            | none => byte 0)
        ++ s.queue.flatMap s.orderBytes, s⟩

end Sys2Proof.Machine
end

