-- ==== Sys2Proof/Machine/Port.lean ====
section
/-! DEFINITION. The Command Port's reading frames, Identify and the attention commands (chapter 10). -/

namespace Sys2Proof.Machine

/-- The output of Fetch Result: status, result length, data, then 00h (R183). -/
def Result.output (r : Result) : List Byte := byte r.status.code ++ byte r.data.length ++ r.data

/-- FETCH_RESULT (R183): the result buffer is driven on SDO and is not changed. -/
def execFetchResult (bits : Nat) (s : State) : Host.Outcome State Fault Refusal :=
  .next <| if s.portOpen then { s with sdo := .output (outputBits s.result.output bits) } else s.notTaken

/-- SNAPSHOT (R187): the end of byte 1 of Read Attention. -/
def execSnapshot (s : State) : Host.Outcome State Fault Refusal :=
  .next <| if s.portOpen then { s with snapshot := some ⟨s.flags, 0⟩ } else s

/-- READ_ATTENTION (R187): the rise of SEL_N. With both output bytes clocked whole, each flag of the
snapshot that was not re-raised is cleared. With no snapshot held the frame was abandoned, and nothing
is cleared (R173, R175; notes/assumptions/9.md): it is a frame not taken. -/
def execReadAttention (bits : Nat) (s : State) : Host.Outcome State Fault Refusal :=
  .next <|
    match s.snapshot with
    | none => s.notTaken
    | some p =>
      if s.portOpen then
        { s with
          snapshot := none
          sdo := .output (outputBits (be 2 p.taken.toNat) bits)
          flags := if 16 ≤ bits then s.flags &&& ~~~(p.taken &&& ~~~p.reRaised) else s.flags }
      else { s.notTaken with snapshot := none }

/-- SET_ATTENTION_MASK (R186). -/
def execSetAttentionMask (mask : BitVec 16) (s : State) : Host.Outcome State Fault Refusal :=
  serve s <| .ok ⟨.ok, be 2 mask.toNat, { s with mask := mask }⟩

/-- The straps byte of Identify (R184). -/
def strapsByte (x : Straps) : Nat := x.feeders8.toNat + 2 * x.fuelFine.toNat + 4 * x.fbLow.toNat

/-- IDENTIFY (R184). Its last byte is the supply mode, 00h for ACTIVE: frames are taken in ACTIVE alone,
so it always reads 00h (R172, R173). -/
def execIdentify (s : State) : Host.Outcome State Fault Refusal :=
  serve s <|
    .ok ⟨.ok,
      [0x42] ++ be 2 7416 ++ [0x43] ++ byte (strapsByte s.straps)
        ++ byte 24 ++ byte (if s.straps.feeders8 then 8 else 16) ++ byte 64 ++ byte 4 ++ byte 4 ++ byte 6
        ++ byte 8 ++ byte 0, s⟩

end Sys2Proof.Machine
end

