-- ==== Sys2Proof/Machine/Prices.lean ====
section
/-! DEFINITION. The Tariff Unit's commands (chapter 8.4). -/

namespace Sys2Proof.Machine

/-- A value written to an item waits until the next hour boundary or Set Clock; an earlier one that
waited is lost (R155). -/
def TariffItem.write {α : Type} (t : TariffItem α) (v : α) : TariffItem α := ⟨t.live, some v⟩

/-- SET_BAND_RATE (R155). -/
def execSetBandRate (band : Byte) (rate : BitVec 16) (s : State) : Host.Outcome State Fault Refusal :=
  serve s do
    let b ← indexOperand 4 band
    let item := s.tariff.rates[b]
    .ok ⟨.ok, byte b.val ++ be 2 item.live ++ be 2 rate.toNat,
      { s with tariff := { s.tariff with rates := s.tariff.rates.set b (item.write rate.toNat) } }⟩

/-- SET_FUEL_PRICE (R155). -/
def execSetFuelPrice (price : BitVec 16) (s : State) : Host.Outcome State Fault Refusal :=
  serve s <|
    .ok ⟨.ok, be 2 s.tariff.price.live ++ be 2 price.toNat,
      { s with tariff := { s.tariff with price := s.tariff.price.write price.toNat } }⟩

/-- SET_SCHEDULE_SLOT (R155). -/
def execSetScheduleSlot (hour : Byte) (band : Byte) (s : State) : Host.Outcome State Fault Refusal :=
  serve s do
    let h ← indexOperand 24 hour
    let b ← indexOperand 4 band
    let item := s.tariff.schedule[h]
    .ok ⟨.ok, byte h.val ++ byte item.live.val ++ byte b.val,
      { s with tariff := { s.tariff with schedule := s.tariff.schedule.set h (item.write b) } }⟩

/-- Byte 0 of Query Tariff: which rates and whether a price wait, and the clock's validity (R193). -/
def State.tariffFlags (s : State) : Nat :=
  (s.tariff.rates[0]).waiting.isSome.toNat + 2 * (s.tariff.rates[1]).waiting.isSome.toNat
    + 4 * (s.tariff.rates[2]).waiting.isSome.toNat + 8 * (s.tariff.rates[3]).waiting.isSome.toNat
    + 16 * s.tariff.price.waiting.isSome.toNat + 128 * s.clock.valid.toNat

/-- QUERY_TARIFF (R159, R193), 40 bytes. -/
def execQueryTariff (s : State) : Host.Outcome State Fault Refusal :=
  serve s <|
    let t := s.tariff
    let waitingBand (i : TariffItem Band) : Nat :=
      match i.waiting with
      | some b => b.val
      | none => 0
    .ok ⟨.ok,
      byte s.tariffFlags
        ++ t.rates.toList.flatMap (fun i => be 2 i.live)
        ++ t.rates.toList.flatMap (fun i => be 2 (i.waiting.getD 0))
        ++ be 2 t.price.live ++ be 2 (t.price.waiting.getD 0)
        ++ be 6 (packPairs (t.schedule.toList.map (·.live.val)))
        ++ be 3 (packBits (t.schedule.toList.map (·.waiting.isSome)))
        ++ be 6 (packPairs (t.schedule.toList.map waitingBand))
        ++ byte s.hourByte ++ byte s.bandInForce.val ++ be 2 s.rateInForce, s⟩

end Sys2Proof.Machine
end

