-- ==== Sys2Proof/Machine/Sequencer.lean ====
section
/-! DEFINITION. The Transfer Sequencer's commands and deadlines (chapter 6). A deadline that is not due,
or that another phase's row names, does not happen (notes/assumptions/3.md). -/

namespace Sys2Proof.Machine

/-- SET_TRANSFER_PARAMETERS (R120). -/
def execSetTransferParameters (openTimeout : BitVec 16) (closeTimeout : BitVec 16) (minRuntime : BitVec 16)
    (s : State) : Host.Outcome State Fault Refusal :=
  serve s <|
    let p : Params := ⟨clampTo 50 2000 openTimeout.toNat, clampTo 50 2000 closeTimeout.toNat,
      clampTo 0 600 minRuntime.toNat⟩
    .ok
      { status := clampedIf (p.openTimeout != openTimeout.toNat || p.closeTimeout != closeTimeout.toNat
          || p.minRuntime != minRuntime.toNat)
        data := be 2 p.openTimeout ++ be 2 p.closeTimeout ++ be 2 p.minRuntime
        state := { s with params := p } }

/-- The transfer in hand in Query Sequencer, bytes 0 to 11; IDLE reads 00h (R189, R191). -/
def State.transferBytes (s : State) : List Byte :=
  match s.transfer with
  | none => be 12 0
  | some t =>
    byte (phaseByte t.phase t.releasing) ++ byte t.feeder.val ++ byte (sideCode t.fromSide)
      ++ byte (slotCode (t.fromSide.bind (s.boundSet t.feeder))) ++ byte (sideCode (some t.target))
      ++ byte (slotCode (s.boundSet t.feeder t.target)) ++ byte t.deadTime
      ++ byte (match t.fallback with
        | some r => r.reason.code
        | none => 0)
      ++ be 2 t.deadline ++ be 2 t.elapsed

/-- The last-outcome record in Query Sequencer, bytes 12 to 24. Empty, its feeder reads FFh (R191) and
its other fields 00h; DEDUCED (notes/assumptions/13.md). -/
def lastOutcomeBytes : Option LastOutcome → List Byte
  | none => [0xFF] ++ be 12 0
  | some l =>
    byte l.feeder.val ++ byte (sideCode l.fromSide) ++ byte (slotCode l.fromSet)
      ++ byte (sideCode (some l.target)) ++ byte (slotCode l.targetSet)
      ++ byte l.outcome.code ++ byte l.reason.code ++ byte (phaseByte l.phase l.releasing)
      ++ be 3 l.minute ++ be 2 l.elapsed

/-- QUERY_SEQUENCER (R122, R191), 31 bytes. -/
def execQuerySequencer (s : State) : Host.Outcome State Fault Refusal :=
  serve s <|
    .ok ⟨.ok,
      s.transferBytes ++ lastOutcomeBytes s.lastOutcome
        ++ be 2 s.params.openTimeout ++ be 2 s.params.closeTimeout ++ be 2 s.params.minRuntime, s⟩

/-- The open timeout expires in OPENING: the old side is closed again, FAILED (R108). -/
def State.openTimedOut (s : State) (t : Transfer) (d : Side) : State :=
  (s.driveSide t.feeder d true).endTransfer t (.on d) .none .failed .openTimeout [.transferFailed]

/-- OPEN_TIMEOUT (R108). -/
def execOpenTimeout (s : State) : Host.Outcome State Fault Refusal :=
  .next <|
    match s.deadlineDue with
    | some t =>
      match t.phase, t.fromSide with
      | .opening, some d => (s.openTimedOut t d).scanIfIdle
      | _, _ => s
    | none => s

/-- The target set of a transfer is RUNNING (R109). -/
def State.targetRunning (s : State) (t : Transfer) : Bool :=
  match s.boundSet t.feeder t.target with
  | some i =>
    match s.set? i with
    | some r => r.running
    | none => false
  | none => false

/-- DEAD_TIME_EXPIRY (R109). -/
def execDeadTimeExpiry (s : State) : Host.Outcome State Fault Refusal :=
  .next <|
    match s.deadlineDue with
    | some t =>
      match t.phase, t.fromSide with
      | .dead, some d =>
        if s.targetRunning t then (s.beginClosing t).scanIfIdle
        else (s.beginFallback t d .targetStopped).scanIfIdle
      | _, _ => s
    | none => s

/-- CLOSE_TIMEOUT (R110, R111): CLOSING of a transfer from ON goes to FALLBACK, one from DARK to its
releasing part. -/
def execCloseTimeout (s : State) : Host.Outcome State Fault Refusal :=
  .next <|
    match s.deadlineDue with
    | some t =>
      match t.phase, t.releasing, t.fromSide with
      | .closing, false, some d => (s.beginFallback t d .closeTimeout).scanIfIdle
      | .closing, false, none => (s.beginReleasing t).scanIfIdle
      | _, _, _ => s
    | none => s

/-- RELEASE_DEADLINE (R111): the target contact is stuck. -/
def execReleaseDeadline (s : State) : Host.Outcome State Fault Refusal :=
  .next <|
    match s.deadlineDue with
    | some t =>
      match t.phase, t.releasing with
      | .closing, true =>
        (s.endTransfer t .fault .stuck .failed .closeTimeout [.transferFailed, .feederFault]).scanIfIdle
      | _, _ => s
    | none => s

/-- FALLBACK_TIMEOUT (R112): both drives open, FAULT with cause STUCK. -/
def execFallbackTimeout (s : State) : Host.Outcome State Fault Refusal :=
  .next <|
    match s.deadlineDue with
    | some t =>
      match t.phase with
      | .fallback =>
        (s.endTransfer t .fault .stuck .failed .fallbackTimeout
          [.transferFailed, .feederFault]).scanIfIdle
      | _ => s
    | none => s

end Sys2Proof.Machine
end

