-- ==== Sys2Proof/Machine/BurnOps.lean ====
section
/-! DEFINITION. The Burn Unit's evaluation of a set, stage by stage (R32 to R41), and the sharing of its
burn among accounts (R76 to R80). -/

namespace Sys2Proof.Machine

/-! ## Collect -/

/-- An active feeder that is energised from the set (R34). -/
def State.suppliedBy (s : State) (i : SetSlot) (ch : Channel) : Bool :=
  s.active ch && (s.feeder ch).energisedSet == some i

/-- Step 2 of R34 for one feeder: its interval energy joins under its present account. -/
def State.addFeeder (s : State) (i : SetSlot) (l : List (AccountSlot × Nat)) (ch : Channel) :
    List (AccountSlot × Nat) :=
  if s.suppliedBy i ch && decide (0 < (s.feeder ch).interval) then
    addEntry l (s.feeder ch).account (s.feeder ch).interval
  else l

/-- Step 3 of R34: the carried overflow joins under the idle account. -/
def addOverflow (r : SetRec) (l : List (AccountSlot × Nat)) : List (AccountSlot × Nat) :=
  if 0 < r.overflow then addEntry l r.idle r.overflow else l

/-- The contribution list of a set (R34). -/
def State.contributions (s : State) (i : SetSlot) (r : SetRec) : List (AccountSlot × Nat) :=
  addOverflow r (channels.foldl (s.addFeeder i) r.carried)

/-- D, the exact sum of a contribution list (R76). -/
def totalOf (l : List (AccountSlot × Nat)) : Nat := (l.map (·.2)).sum

/-- E, the collected energy, held saturating (R34). -/
def collectedOf (l : List (AccountSlot × Nat)) : Nat := min max32 (totalOf l)

/-- A feeder after collection: its last demand over the seconds evaluated, its interval energy taken
(R34, R35). -/
def Feeder.collected (f : Feeder) (secs : Nat) : Feeder :=
  { f with demand := min max32 (f.interval * 3600 / secs), interval := 0 }

/-- Collects the feeders energised from a set (R34, R35). -/
def State.collectFeeders (s : State) (i : SetSlot) (secs : Nat) : State :=
  channels.foldl
    (fun s ch => if s.suppliedBy i ch then s.putFeeder ch ((s.feeder ch).collected secs) else s) s

/-! ## Load, Rate, Burn and Tank -/

/-- The load over the seconds evaluated, in per-mille of rating (R36). -/
def loadOf (energy secs rating : Nat) : Nat := energy * 3600 / (secs * rating)

/-- The set record after Collect and Load (R34, R36). -/
def SetRec.loaded (r : SetRec) (energy secs : Nat) : SetRec :=
  let f := loadOf energy secs r.rating
  { r with carried := [], overflow := 0, load := min f 9999 }.withOverloadCond f

/-- The fuel rate a curve gives at a load clamped to 1,000 per-mille (R37). -/
def Curve.rateAt (c : Curve) (load : Nat) : Nat :=
  let fi := min load 1000
  let k : Fin 10 := ⟨min (fi / 100) 9, by omega⟩
  let lo := c.points[k.val]'(by omega)
  let hi := c.points[k.val + 1]'(by omega)
  lo + (hi - lo) * (fi - 100 * k.val) / 100

/-- The Rate stage: an incomplete curve gives rate 0 and UNCOSTED (R37). -/
def SetRec.rated (r : SetRec) (c : Curve) (load : Nat) : SetRec :=
  { r with
    rate := if c.complete then c.rateAt load else 0
    conds := { r.conds with uncosted := !c.complete } }

/-- a of R38, in units of 1/3,600 mL. -/
def SetRec.burnUnits (r : SetRec) (secs : Nat) : Nat := r.remainder + r.rate * secs

/-- The burn over the seconds evaluated, in mL (R38). -/
def SetRec.burnOf (r : SetRec) (secs : Nat) : Nat := r.burnUnits secs / 3600

/-- The Burn stage (R38). -/
def SetRec.burnt (r : SetRec) (secs : Nat) : SetRec :=
  { r with
    remainder := r.burnUnits secs % 3600
    runSeconds := satAdd max32 r.runSeconds secs
    burned := satAdd max32 r.burned (r.burnOf secs) }

/-- The Tank stage without the relief it may start (R39). -/
def SetRec.debited (r : SetRec) (burn : Nat) : SetRec :=
  { r with
    tank := r.tank - burn
    dryCount := satAdd max16 r.dryCount (if r.tank - burn = 0 then 1 else 0) }.withFuelConds

/-! ## Apportion -/

/-- An entry's floor share of a burn over a total (R78). -/
def floorShare (burn total : Nat) (p : AccountSlot × Nat) : Nat := burn * p.2 / total

/-- An entry's remainder (R78). -/
def shareRemainder (burn total : Nat) (p : AccountSlot × Nat) : Nat := burn * p.2 % total

/-- The leftover of a burn after the floor shares (R78). -/
def leftover (burn : Nat) (l : List (AccountSlot × Nat)) : Nat :=
  burn - (l.map (floorShare burn (totalOf l))).sum

/-- An entry that comes before another in the order of R79: a larger remainder, or an equal one and a
lower account slot. -/
def ranksBefore (burn total : Nat) (q p : AccountSlot × Nat) : Bool :=
  decide (shareRemainder burn total p < shareRemainder burn total q) ||
    (shareRemainder burn total q == shareRemainder burn total p && decide (q.1 < p.1))

/-- The number of entries that come before one in the order of R79. -/
def rankOf (burn : Nat) (l : List (AccountSlot × Nat)) (p : AccountSlot × Nat) : Nat :=
  l.countP fun q => ranksBefore burn (totalOf l) q p

/-- An entry's final share: its floor share, and a leftover millilitre if its turn comes before the
leftover is spent (R79). -/
def finalShare (burn : Nat) (l : List (AccountSlot × Nat)) (p : AccountSlot × Nat) : Nat :=
  floorShare burn (totalOf l) p + (if rankOf burn l p < leftover burn l then 1 else 0)

/-- The shares of a burn among the accounts of a contribution list; with nothing collected the idle
account has the whole burn (R77, R78, R79). -/
def sharesOf (burn : Nat) (l : List (AccountSlot × Nat)) (idle : AccountSlot) : List (AccountSlot × Nat) :=
  if totalOf l = 0 then [(idle, burn)] else l.map fun p => (p.1, finalShare burn l p)

/-- Credits each share to its account (R80). -/
def State.creditShares (s : State) (shares : List (AccountSlot × Nat)) : State :=
  shares.foldl (fun s p => s.creditShare p.1 p.2) s

/-! ## The evaluation -/

/-- The set's record after Collect, Load, Rate and Burn, from the contribution list and the curve as they
stand (R34 to R38). -/
def SetRec.burnStages (r : SetRec) (l : List (AccountSlot × Nat)) (c : Curve) (secs : Nat) : SetRec :=
  ((r.loaded (collectedOf l) secs).rated c (loadOf (collectedOf l) secs r.rating)).burnt secs

/-- The burn of an evaluation (R38). -/
def SetRec.evaluatedBurn (r : SetRec) (l : List (AccountSlot × Nat)) (c : Curve) (secs : Nat) : Nat :=
  ((r.loaded (collectedOf l) secs).rated c (loadOf (collectedOf l) secs r.rating)).burnOf secs

/-- The set's record after the whole evaluation (R34 to R41). -/
def SetRec.evaluated (r : SetRec) (l : List (AccountSlot × Nat)) (c : Curve) (secs : Nat) : SetRec :=
  ((r.burnStages l c secs).debited (r.evaluatedBurn l c secs)).withRuntime

/-- The Tank stage's entry into RESERVE starts relief generation (R20, R39, R92). -/
def State.reliefAtEntry (s : State) (i : SetSlot) (before after : SetRec) : State :=
  if !before.conds.reserve && after.conds.reserve then s.generateRelief i after.relief after.window else s

/-- An evaluation of a set over some seconds, without the scan that follows it (R32), and its burn. The
record is written with its conditions' flags, then relief is generated and the burn apportioned; neither
reads what the Runtime stage writes. -/
def State.evaluate (s : State) (i : SetSlot) (secs : Nat) : State × Nat :=
  match s.set? i with
  | none => (s, 0)
  | some r =>
    let l := s.contributions i r
    let c := s.curves[r.curve]
    let burn := r.evaluatedBurn l c secs
    let after := r.evaluated l c secs
    let s := ((s.collectFeeders i secs).writeSet i r after).reliefAtEntry i r after
    (s.creditShares (sharesOf burn l r.idle), burn)

end Sys2Proof.Machine
end

