-- ==== Sys2Proof/Machine/Sets.lean ====
section
/-! DEFINITION. The Set Table's commands and the interval expiry (chapter 1, R31). -/

namespace Sys2Proof.Machine

/-- The set slots in order. -/
def slots : List SetSlot := [0, 1, 2, 3, 4, 5, 6, 7, 8, 9, 10, 11, 12, 13, 14, 15, 16, 17, 18, 19, 20, 21, 22, 23]

/-- The hired set that carries a unit number (R6, R12). -/
def State.slotOfUnit (s : State) (unit : BitVec 32) : Option SetSlot :=
  slots.find? fun i =>
    match s.set? i with
    | some r => r.unit == unit
    | none => false

/-- The lowest free set slot (R11). -/
def State.freeSlot (s : State) : Option SetSlot := slots.find? fun i => (s.set? i).isNone

/-- The record of a set as hired, its conditions derived (R7, R9, R10, R11). -/
def SetRec.hired (unit : BitVec 32) (rating capacity : Nat) (curve : CurveNo)
    (minHire dayRate hireStart tank : Nat) : SetRec :=
  SetRec.withFuelConds
    { unit := unit, rating := rating, capacity := capacity, minHire := minHire, dayRate := dayRate
      hireStart := hireStart, curve := curve, reserve := capacity / 10, loadLimit := 1000, idle := 0
      relief := none, window := 30, running := false, timer := 0, expiring := false
      tank := min tank capacity, remainder := 0, rate := 0, load := 0, runtime := 65535
      conds := ⟨false, false, false, false⟩, carried := [], overflow := 0, runSeconds := 0
      burned := 0, credited := 0, overfill := 0, dryCount := 0 }

/-- HIRE_SET (R11). -/
def execHireSet (unit : BitVec 32) (rating : BitVec 16) (capacity : BitVec 32) (curve : Byte)
    (minHire : BitVec 16) (dayRate : BitVec 32) (tank : BitVec 32) (s : State) :
    Host.Outcome State Fault Refusal :=
  serve s do
    require (10 ≤ rating.toNat && rating.toNat ≤ 2000) .range
    require (50000 ≤ capacity.toNat && capacity.toNat ≤ 4000000) .range
    let c ← indexOperand 6 curve
    require (minHire.toNat ≤ 43200) .range
    require (dayRate.toNat ≤ 1000000) .range
    require s.clock.valid .noClock
    require (s.slotOfUnit unit).isNone .exists
    match s.freeSlot with
    | none => .error .full
    | some i =>
      let r := SetRec.hired unit rating.toNat capacity.toNat c minHire.toNat dayRate.toNat
        s.clock.minute tank.toNat
      .ok
        { status := clampedIf (capacity.toNat < tank.toNat)
          data := byte (slotCode (some i)) ++ be 3 r.tank
          state := (s.putSet i (some r)).raiseEntries ⟨false, false, false, false⟩ r.conds }

/-- The conditions byte of the running view (R191): RUNNING in bit 0, the conditions in bits 4 to 7. -/
def SetRec.condsByte (r : SetRec) : Nat :=
  r.running.toNat + 16 * r.conds.reserve.toNat + 32 * r.conds.dry.toNat
    + 64 * r.conds.overload.toNat + 128 * r.conds.uncosted.toNat

/-- The running view of a set record, 50 bytes (R191). -/
def State.runningView (s : State) (i : SetSlot) (r : SetRec) : List Byte :=
  byte (slotCode (some i)) ++ be 4 r.unit.toNat ++ be 2 r.rating ++ be 3 r.capacity
    ++ byte r.curve.val ++ be 2 r.minHire ++ be 3 r.dayRate ++ be 3 r.hireStart
    ++ be 3 r.reserve ++ be 2 r.loadLimit
    ++ byte r.idle.val ++ byte (slotCode r.relief) ++ byte r.window ++ byte r.condsByte
    ++ be 2 r.timer ++ be 3 r.tank ++ be 2 r.remainder
    ++ be 3 r.rate ++ be 2 r.load ++ be 2 r.runtime
    ++ be 4 (min max32 (s.committed i)) ++ beInt 4 (max (-2147483648) (s.headroom i r))

/-- The four carried entries of the energy view, unused ones 00h (R189, R191). -/
def carriedBytes (l : List (AccountSlot × Nat)) : List Byte :=
  ((l.flatMap fun (p : AccountSlot × Nat) => byte p.1.val ++ be 4 p.2) ++ List.replicate 20 0).take 20

/-- The energy view of a set record, 44 bytes (R191). -/
def SetRec.energyView (r : SetRec) (i : SetSlot) : List Byte :=
  byte (slotCode (some i)) ++ byte r.carried.length ++ carriedBytes r.carried ++ be 4 r.overflow
    ++ be 4 r.runSeconds ++ be 4 r.burned ++ be 4 r.credited ++ be 4 r.overfill ++ be 2 r.dryCount

/-- QUERY_SET (R13, R190). -/
def execQuerySet (slot : Byte) (view : Option Byte) (s : State) : Host.Outcome State Fault Refusal :=
  serve s do
    let i ← slotOperand slot
    let r ← hiredSet s i
    let v := (view.getD 0).toNat
    require (v ≤ 1) .range
    .ok ⟨.ok, if v = 0 then s.runningView i r else r.energyView i, s⟩

/-- FIND_SET (R12). -/
def execFindSet (unit : BitVec 32) (s : State) : Host.Outcome State Fault Refusal :=
  serve s <|
    match s.slotOfUnit unit with
    | some i => .ok ⟨.ok, byte (slotCode (some i)), s⟩
    | none => .error .noRecord

/-- The record of a set that is reported started (R14). -/
def SetRec.started (r : SetRec) : SetRec := { r with running := true, timer := 0, expiring := false }

/-- The record of a set that is reported stopped (R15). -/
def SetRec.stopped (r : SetRec) : SetRec := { r with running := false, timer := 0, expiring := false }

/-- The partial evaluation of a stop report: the whole seconds of the interval timer, none when they are
0 (R15). -/
def State.partialEvaluation (s : State) (i : SetSlot) (secs : Nat) : State × Nat :=
  if secs = 0 then (s, 0) else s.evaluate i secs

/-- REPORT_RUN (R14, R15). -/
def execReportRun (slot : Byte) (report : Byte) (s : State) : Host.Outcome State Fault Refusal :=
  serve s do
    let i ← slotOperand slot
    let started ← reportOperand report
    let r ← hiredSet s i
    require (r.running != started) .state
    if started then
      .ok ⟨.ok, byte (slotCode (some i)) ++ [1, 0] ++ be 2 0, (s.updSet i SetRec.started).scan⟩
    else
      let secs := r.timer / 1000
      let e := s.partialEvaluation i secs
      .ok ⟨.ok, byte (slotCode (some i)) ++ [0] ++ byte secs ++ be 2 e.2,
        (e.1.updSet i SetRec.stopped).scan⟩

/-- The record of a set with its six amendable fields written and RESERVE and OVERLOAD re-derived
(R16, R17). -/
def SetRec.amended (r : SetRec) (curve : CurveNo) (reserve loadLimit : Nat) (idle : AccountSlot)
    (relief : Option SetSlot) (window : Nat) : SetRec :=
  ({ r with
      curve := curve, reserve := min reserve r.capacity, loadLimit := clampTo 500 1100 loadLimit
      idle := idle, relief := relief, window := clampTo 2 240 window }.withReserveCond).withOverloadCond
    r.load

/-- AMEND_SET (R16, R17). -/
def execAmendSet (slot : Byte) (curve : Byte) (reserve : BitVec 32) (loadLimit : BitVec 16) (idle : Byte)
    (relief : Byte) (window : Byte) (s : State) : Host.Outcome State Fault Refusal :=
  serve s do
    let i ← slotOperand slot
    let r ← hiredSet s i
    let c ← indexOperand 6 curve
    let a ← indexOperand 64 idle
    let _ ← openSlot s a
    let rel ← slotOrNoneOperand relief
    require (rel != some i) .range
    require (rel.all fun j => (s.set? j).isSome) .noRecord
    let r' := r.amended c reserve.toNat loadLimit.toNat a rel window.toNat
    .ok
      { status := clampedIf (r'.reserve != reserve.toNat || r'.loadLimit != loadLimit.toNat
          || r'.window != window.toNat)
        data := byte (slotCode (some i)) ++ byte r'.curve.val ++ be 4 r'.reserve ++ be 2 r'.loadLimit
          ++ byte r'.idle.val ++ byte (slotCode r'.relief) ++ byte r'.window
        state := s.writeSet i r r' }

/-- The record of a set with its tank estimate written by a dip (R8, R18). -/
def SetRec.dipped (r : SetRec) (reading : Nat) : SetRec :=
  { r with tank := min reading r.capacity }.withRuntime.withFuelConds

/-- DIP_SET (R18). -/
def execDipSet (slot : Byte) (reading : BitVec 32) (s : State) : Host.Outcome State Fault Refusal :=
  serve s do
    let i ← slotOperand slot
    let r ← hiredSet s i
    let r' := r.dipped reading.toNat
    .ok
      { status := clampedIf (r.capacity < reading.toNat)
        data := byte (slotCode (some i)) ++ be 3 r'.tank ++ be 2 r'.runtime
        state := s.writeSet i r r' }

/-- A feeder side is bound to a set, on any channel (R21). -/
def State.setBound (s : State) (i : SetSlot) : Bool :=
  channels.any fun ch => (s.feeder ch).bound.a == some i || (s.feeder ch).bound.b == some i

/-- The delivery positions in order. -/
def positionNos : List PositionNo := [0, 1, 2, 3]

/-- A ticket at some position names a set (R21). -/
def State.setTicketed (s : State) (i : SetSlot) : Bool :=
  positionNos.any fun p => ((s.position p).ticket.map (·.set)) == some i

/-- The figures of an off-hire statement that are computed (R23): hire minutes, billable minutes and
hire charge. -/
def SetRec.hireMinutes (r : SetRec) (minute : Nat) : Nat := minute - r.hireStart

/-- Billable minutes (R23). -/
def SetRec.billableMinutes (r : SetRec) (minute : Nat) : Nat := max (r.hireMinutes minute) r.minHire

/-- Hire charge in cents (R23). -/
def SetRec.hireCharge (r : SetRec) (minute : Nat) : Nat :=
  (r.billableMinutes minute + 1439) / 1440 * r.dayRate

/-- The off-hire statement, 42 bytes (R23, R191). -/
def SetRec.offHireStatement (r : SetRec) (i : SetSlot) (minute : Nat) : List Byte :=
  byte (slotCode (some i)) ++ be 4 r.unit.toNat ++ be 3 r.hireStart ++ be 3 minute
    ++ be 3 (r.hireMinutes minute) ++ be 3 (r.billableMinutes minute) ++ be 4 (r.hireCharge minute)
    ++ be 4 r.runSeconds ++ be 4 r.burned ++ be 4 r.credited ++ be 4 r.overfill
    ++ be 3 r.tank ++ be 2 r.dryCount

/-- The relief field of a set with a slot that leaves hire taken out of it (R22). -/
def SetRec.withoutRelief (r : SetRec) (i : SetSlot) : SetRec :=
  if r.relief = some i then { r with relief := none } else r

/-- OFF_HIRE_SET (R21, R22, R23). -/
def execOffHireSet (slot : Byte) (s : State) : Host.Outcome State Fault Refusal :=
  serve s do
    let i ← slotOperand slot
    let r ← hiredSet s i
    require s.clock.valid .noClock
    require (!r.running) .state
    require (!s.setBound i && !s.setTicketed i) .inUse
    let sets := s.sets.map (Option.map (·.withoutRelief i))
    .ok ⟨.ok, r.offHireStatement i s.clock.minute, { s with sets := sets.set i none }⟩

/-- INTERVAL_EXPIRY (R31): the timer of a running set would reach 60,000 ms. It is evaluated for 60 s,
the timer starts again from 0, and the queue scans (R32). An expiry that is not due does not happen
(notes/assumptions/3.md). -/
def execIntervalExpiry (i : SetSlot) (s : State) : Host.Outcome State Fault Refusal :=
  .next <|
    match s.set? i with
    | none => s
    | some r =>
      if r.running && r.expiring then
        ((s.evaluate i 60).1.updSet i fun r => { r with timer := 0, expiring := false }).scan
      else s

end Sys2Proof.Machine
end

