-- ==== Sys2Proof/Machine/Supply.lean ====
section
/-! DEFINITION. The supply modes, the reset line, Restart and cold start (chapter 9.3 to 9.5), with the
re-derivation of feeders (R65) and the deactivation of channels (R66). -/

namespace Sys2Proof.Machine

/-- SUPPLY_OK_FALL (R172, R173): HOLDOVER; a frame in progress is abandoned. A line that is low already
does not fall. -/
def execSupplyOkFall (s : State) : Host.Outcome State Fault Refusal :=
  .next <|
    if s.pins.supplyOk then
      { s with mode := .holdover, snapshot := none, pins := { s.pins with supplyOk := false } }
    else s

/-- SUPPLY_OK_RISE (R172): RESUMING, the resume timer starting from 0. A line that is high already does
not rise. -/
def execSupplyOkRise (s : State) : Host.Outcome State Fault Refusal :=
  .next <|
    if s.pins.supplyOk then s
    else { s with mode := .resuming 0, pins := { s.pins with supplyOk := true } }

/-- SUPPLY_OK has stayed high for 2,000 ms (R172). -/
def State.resumeDue (s : State) : Bool :=
  match s.mode with
  | .resuming ms => decide (2000 ≤ ms)
  | _ => false

/-- RESUME_TIMER_EXPIRY (R172): ACTIVE, SUPPLY_RESTORED, and a scan. An expiry that is not due does not
happen (notes/assumptions/3.md). -/
def execResumeTimerExpiry (s : State) : Host.Outcome State Fault Refusal :=
  .next <|
    if s.resumeDue then (({ s with mode := .active } : State).raise .supplyRestored).scan else s

/-- RESET_N_FALL (R175): every flag is held clear, and a frame in progress is abandoned. A line that is
low already does not fall. -/
def execResetNFall (s : State) : Host.Outcome State Fault Refusal :=
  .next <|
    if s.pins.resetN then
      { s with flags := 0, snapshot := none, pins := { s.pins with resetN := false } }
    else s

/-- Step 1 of a reset: the port domain's reset values. A transfer in hand keeps its fields (R176). -/
def State.resetPort (s : State) : State :=
  { s with
    result := .none, flags := 0, mask := BitVec.allOnes 16, snapshot := none, staging := none }

/-- The state a feeder's drives and feedback give it (R65). -/
def derivedState (drive : PerSide Bool) (fbA fbB : Bool) : FeederState :=
  if drive.a = fbA && drive.b = fbB && !(drive.a && drive.b) then
    if drive.a then .on .A else if drive.b then .on .B else .dark
  else .fault

/-- The cause of a fault that the re-derivation makes (R65). -/
def derivedCause (fbA fbB : Bool) : FaultCause :=
  if fbA || fbB then .unexpectedClose else .unexpectedOpen

/-- The re-derived state of a feeder (R65). -/
def State.derived (s : State) (ch : Channel) : FeederState :=
  derivedState (s.feeder ch).drive (s.fbClosed ch .A) (s.fbClosed ch .B)

/-- Re-derives a feeder: it ends any open check and cancels the disagreement timers; a feeder made FAULT
is flushed, opened, loses its order and raises FEEDER_FAULT (R65). -/
def State.rederive (s : State) (ch : Channel) : State :=
  if s.derived ch = .fault then
    s.faultFeeder ch (derivedCause (s.fbClosed ch .A) (s.fbClosed ch .B))
  else
    s.putFeeder ch
      { s.feeder ch with
        state := s.derived ch, cause := .none, openCheck := none, watch := ⟨none, none⟩ }

/-- Step 2 of a reset: a transfer in hand ends FAILED with reason RESET, its feeder re-derived (R119,
R176). -/
def State.resetTransfer (s : State) : State :=
  match s.transfer with
  | none => s
  | some t =>
    let s := s.rederive t.feeder
    s.endTransfer t (s.feeder t.feeder).state (s.feeder t.feeder).cause .failed .reset [.transferFailed]

/-- A channel is made inactive: flushed, opened, its order cancelled, DARK (R66). -/
def State.deactivate (s : State) (ch : Channel) : State :=
  let s := (s.flush ch).driveOpen ch
  let s := s.removeOrder ch .cancelled .channelInactive
  s.putFeeder ch
    { s.feeder ch with state := .dark, cause := .none, openCheck := none, watch := ⟨none, none⟩ }

/-- Channels 8 to 15. -/
def upperChannels : List Channel := [8, 9, 10, 11, 12, 13, 14, 15]

/-- Step 3 of a reset: the straps are sampled; FEEDERS8 newly set deactivates channels 8 to 15 (R66,
R177). -/
def State.sampleStraps (s : State) (x : Straps) : State :=
  let s := if x.feeders8 && !s.straps.feeders8 then upperChannels.foldl State.deactivate s else s
  { s with straps := x }

/-- Step 4 of a reset for the channels listed, in the list's order: every active channel that step 2 did not
re-derive is re-derived; the one it did is watched at the polarity sampled (R176). -/
def State.rederiveEach (s : State) (done : Option Channel) (order : List Channel) : State :=
  order.foldl
    (fun s ch =>
      if some ch = done then s.rewatch ch 0
      else if s.active ch then s.rederive ch else s) s

/-- The feeders that step 4 of a reset makes FAULT and whose flushes move energy (R53, R65). -/
def State.flushedTogether (s : State) (done : Option Channel) : List Channel :=
  channels.filter fun ch =>
    some ch != done && s.active ch && s.derived ch == .fault && (s.flushMoves ch).isSome

/-- Step 4 of a reset (R176). R65 and R176 give the channels no order, and R71 lets the flushes of several
feeders made FAULT reach a set in either order: their order is a free choice. The order of the other
channels does not show, and they follow in channel order. DESIGN CHOICE, notes/assumptions/27.md. -/
def State.rederiveRest (s : State) (done : Option Channel) : State :=
  let together := s.flushedTogether done
  let drawn := s.drawOrder together
  drawn.2.rederiveEach done (drawn.1 ++ channels.filter fun ch => !together.contains ch)

/-- RESET_N_RISE (R176), the five steps. A line that is high already does not rise. -/
def execResetNRise (x : Straps) (s : State) : Host.Outcome State Fault Refusal :=
  .next <|
    if s.pins.resetN then s
    else
      let held := s.transfer.map (·.feeder)
      let s : State := { s with pins := { s.pins with resetN := true } }
      (((s.resetPort.resetTransfer).sampleStraps x).rederiveRest held).scan

/-- RESTART (R178): steps 1, 2, 4 and 5 of the reset, without sampling the straps. It writes no result of
its own. -/
def execRestart (s : State) : Host.Outcome State Fault Refusal :=
  .next <|
    if s.portOpen then
      { ((s.resetPort.resetTransfer).rederiveRest (s.transfer.map (·.feeder))).scan with sdo := .low }
    else s.notTaken

/-- COLD_START (R67, R179): every record at its value after cold start, with the straps sampled and the
mode following SUPPLY_OK. The model's own queue and choice count are kept. -/
def execColdStart (x : Straps) (pins : Pins) (s : State) : Host.Outcome State Fault Refusal :=
  .next { State.cold x pins with pending := s.pending, choices := s.choices }

end Sys2Proof.Machine
end

