-- ==== Sys2Proof/Machine/Time.lean ====
section
/-! DEFINITION. The Site Clock's commands and the second advance (chapter 9.1, 9.2). -/

namespace Sys2Proof.Machine

/-- Every pending tariff value becomes live (R156). -/
def State.applyTariff (s : State) : State := { s with tariff := s.tariff.apply }

/-- SET_CLOCK (R90, R170). -/
def execSetClock (minute : BitVec 24) (s : State) : Host.Outcome State Fault Refusal :=
  serve s do
    let m := minute.toNat
    require (m ≤ lastMinute) .range
    let set : State := { s with clock := ⟨true, m, 0, 0⟩ }
    let priced := set.applyTariff
    let expired := priced.queue.countP (·.ended m)
    .ok ⟨.ok,
      be 3 m ++ byte (hourOf m).val ++ byte priced.bandInForce.val ++ byte s.tariff.waitingCount
        ++ byte expired,
      priced.expireOrders.scan⟩

/-- The site minute holds at its last value (R168, R171). -/
def State.minuteHolds (s : State) : Bool := s.clock.valid && s.clock.minute == lastMinute

/-- QUERY_CLOCK (R171, R193). -/
def execQueryClock (s : State) : Host.Outcome State Fault Refusal :=
  serve s <|
    .ok ⟨.ok,
      byte (s.clock.valid.toNat + 2 * s.minuteHolds.toNat) ++ be 3 s.clock.minute ++ byte s.clock.second
        ++ byte s.hourByte ++ be 4 s.uptime, s⟩

/-- A minute advance: at an hour boundary the pending tariff values become live; orders expire and the
queue scans (R89, R156, R169). -/
def State.minuteAdvance (s : State) : State :=
  let m := s.clock.minute + 1
  let s : State := { s with clock := { s.clock with minute := m } }
  let s := if m % 60 = 0 then s.applyTariff else s
  s.expireOrders.scan

/-- A second advance of a VALID clock; from second 59 it is a minute advance, unless the minute holds at
its last value (R168). -/
def State.secondAdvance (s : State) : State :=
  if s.clock.second < 59 then
    { s with clock := { s.clock with second := s.clock.second + 1, millis := 0 } }
  else
    let s : State := { s with clock := { s.clock with second := 0, millis := 0 } }
    if s.clock.minute < lastMinute then s.minuteAdvance else s

/-- 1,000 ms have passed since the last second advance, or since Set Clock (R168). -/
def State.secondDue (s : State) : Bool := s.clock.valid && decide (1000 ≤ s.clock.millis)

/-- SITE_SECOND_ADVANCE (R168, R169). An advance that is not due does not happen
(notes/assumptions/3.md). -/
def execSiteSecondAdvance (s : State) : Host.Outcome State Fault Refusal :=
  .next <| if s.secondDue then s.secondAdvance else s

end Sys2Proof.Machine
end

