-- ==== Sys2Proof/Machine/Frames.lean ====
section
/-! DEFINITION. A raw frame at the rise of SEL_N: judged UNKNOWN or LENGTH, ignored, or carried out
(R181, R182). -/

namespace Sys2Proof.Machine

/-- Read Attention from a raw frame: the snapshot is the one taken at the end of byte 1, or, if no
snapshot stands in the queue before the frame, it is taken with the frame (R187). -/
def readAttentionFrame (bits : Nat) (s : State) : Host.Outcome State Fault Refusal :=
  if s.snapshot.isSome then execReadAttention bits s
  else
    match execSnapshot s with
    | .next s' => execReadAttention bits s'
    | o => o

/-- Step 6 of R181: the command is carried out as its own rule lays down. A field event is no frame and
changes nothing here. -/
def carryOut (c : Instr) (s : State) : Host.Outcome State Fault Refusal :=
  match c with
  | .fetchResult bits => execFetchResult bits s
  | .readAttention bits => readAttentionFrame bits s
  | .setAttentionMask m => execSetAttentionMask m s
  | .identify => execIdentify s
  | .restart => execRestart s
  | .setClock m => execSetClock m s
  | .queryClock => execQueryClock s
  | .hireSet u r c k h d t => execHireSet u r c k h d t s
  | .querySet i v => execQuerySet i v s
  | .findSet u => execFindSet u s
  | .reportRun i r => execReportRun i r s
  | .amendSet i k v l a r w => execAmendSet i k v l a r w s
  | .dipSet i t => execDipSet i t s
  | .offHireSet i => execOffHireSet i s
  | .beginCurve k => execBeginCurve k s
  | .loadCurvePoint v => execLoadCurvePoint v s
  | .queryCurve k => execQueryCurve k s
  | .bindSide c d i => execBindSide c d i s
  | .assignFeederAccount c a => execAssignFeederAccount c a s
  | .setFeederParameters c w d => execSetFeederParameters c w d s
  | .openFeeder c => execOpenFeeder c s
  | .reconcileFeeder c => execReconcileFeeder c s
  | .queryFeeder c => execQueryFeeder c s
  | .enqueueOrder c d a b => execEnqueueOrder c d a b s
  | .cancelOrder c => execCancelOrder c s
  | .queryQueue => execQueryQueue s
  | .querySequencer => execQuerySequencer s
  | .setTransferParameters o c m => execSetTransferParameters o c m s
  | .registerSupplier n d => execRegisterSupplier n d s
  | .querySupplier n => execQuerySupplier n s
  | .openTicket p i n q => execOpenTicket p i n q s
  | .setPermitMode p m => execSetPermitMode p m s
  | .closeTicket p d => execCloseTicket p d s
  | .cancelTicket p => execCancelTicket p s
  | .queryPosition p => execQueryPosition p s
  | .openAccount c l => execOpenAccount c l s
  | .queryAccount a => execQueryAccount a s
  | .findAccount c => execFindAccount c s
  | .settleAccount a => execSettleAccount a s
  | .fetchStatement a => execFetchStatement a s
  | .releaseStatement a => execReleaseStatement a s
  | .retireAccount a => execRetireAccount a s
  | .placeHold a => execPlaceHold a s
  | .releaseAllHolds => execReleaseAllHolds s
  | .setBandRate b r => execSetBandRate b r s
  | .setFuelPrice p => execSetFuelPrice p s
  | .setScheduleSlot h b => execSetScheduleSlot h b s
  | .queryTariff => execQueryTariff s
  | .snapshot | .unknownCommand _ | .energyPulse _ | .feedbackChange _ _ _
  | .disagreementTimerExpiry _ _ | .openCheckDeadline _ | .intervalExpiry _ | .openTimeout
  | .deadTimeExpiry | .closeTimeout | .releaseDeadline | .fallbackTimeout | .fuelPulse _
  | .nozzleLift _ | .hangUp _ | .siteSecondAdvance | .supplyOkFall | .supplyOkRise
  | .resumeTimerExpiry | .resetNFall | .resetNRise _ | .coldStart _ _ => .next s

/-- UNKNOWN_COMMAND (R181): a raw frame is judged at the rise of SEL_N. UNKNOWN and LENGTH write the
result buffer with no data and change nothing else (R182); a frame with no whole byte writes nothing; a
frame that passes every judgement is carried out. SDO drives 00h on all but reading frames, and stays
released over a frame the port does not take (R180). -/
def execUnknownCommand (f : Frame) (s : State) : Host.Outcome State Fault Refusal :=
  if s.portOpen && f.taken then
    match judge f with
    | .ignored => .next { s with sdo := .low }
    | .unknown => .next (s.answer .unknown [])
    | .length => .next (s.answer .length [])
    | .carryOut c => carryOut c s
  else .next s.notTaken

end Sys2Proof.Machine
end

