-- ==== Sys2Proof/Machine/Dispatch.lean ====
section
/-! DEFINITION. One arm for each row of spec/opcode_table.json. -/

namespace Sys2Proof.Machine

/-- The effect of a command on everything but the queue. -/
def exec (i : Instr) (s : State) : Host.Outcome State Fault Refusal :=
  match i with
  | .fetchResult bits => Sys2Proof.Machine.execFetchResult bits s
  | .readAttention bits => Sys2Proof.Machine.execReadAttention bits s
  | .snapshot => Sys2Proof.Machine.execSnapshot s
  | .setAttentionMask mask => Sys2Proof.Machine.execSetAttentionMask mask s
  | .identify => Sys2Proof.Machine.execIdentify s
  | .restart => Sys2Proof.Machine.execRestart s
  | .unknownCommand frame => Sys2Proof.Machine.execUnknownCommand frame s
  | .setClock minute => Sys2Proof.Machine.execSetClock minute s
  | .queryClock => Sys2Proof.Machine.execQueryClock s
  | .hireSet unit rating capacity curve minHire dayRate tank => Sys2Proof.Machine.execHireSet unit rating capacity curve minHire dayRate tank s
  | .querySet slot view => Sys2Proof.Machine.execQuerySet slot view s
  | .findSet unit => Sys2Proof.Machine.execFindSet unit s
  | .reportRun slot report => Sys2Proof.Machine.execReportRun slot report s
  | .amendSet slot curve reserve loadLimit idle relief window => Sys2Proof.Machine.execAmendSet slot curve reserve loadLimit idle relief window s
  | .dipSet slot reading => Sys2Proof.Machine.execDipSet slot reading s
  | .offHireSet slot => Sys2Proof.Machine.execOffHireSet slot s
  | .beginCurve curve => Sys2Proof.Machine.execBeginCurve curve s
  | .loadCurvePoint value => Sys2Proof.Machine.execLoadCurvePoint value s
  | .queryCurve curve => Sys2Proof.Machine.execQueryCurve curve s
  | .bindSide channel side slot => Sys2Proof.Machine.execBindSide channel side slot s
  | .assignFeederAccount channel account => Sys2Proof.Machine.execAssignFeederAccount channel account s
  | .setFeederParameters channel weight deadTime => Sys2Proof.Machine.execSetFeederParameters channel weight deadTime s
  | .openFeeder channel => Sys2Proof.Machine.execOpenFeeder channel s
  | .reconcileFeeder channel => Sys2Proof.Machine.execReconcileFeeder channel s
  | .queryFeeder channel => Sys2Proof.Machine.execQueryFeeder channel s
  | .enqueueOrder channel side startMin endMin => Sys2Proof.Machine.execEnqueueOrder channel side startMin endMin s
  | .cancelOrder channel => Sys2Proof.Machine.execCancelOrder channel s
  | .queryQueue => Sys2Proof.Machine.execQueryQueue s
  | .querySequencer => Sys2Proof.Machine.execQuerySequencer s
  | .setTransferParameters openTimeout closeTimeout minRuntime => Sys2Proof.Machine.execSetTransferParameters openTimeout closeTimeout minRuntime s
  | .registerSupplier supplier docket => Sys2Proof.Machine.execRegisterSupplier supplier docket s
  | .querySupplier supplier => Sys2Proof.Machine.execQuerySupplier supplier s
  | .openTicket position slot supplier ordered => Sys2Proof.Machine.execOpenTicket position slot supplier ordered s
  | .setPermitMode position mode => Sys2Proof.Machine.execSetPermitMode position mode s
  | .closeTicket position docket => Sys2Proof.Machine.execCloseTicket position docket s
  | .cancelTicket position => Sys2Proof.Machine.execCancelTicket position s
  | .queryPosition position => Sys2Proof.Machine.execQueryPosition position s
  | .openAccount code label => Sys2Proof.Machine.execOpenAccount code label s
  | .queryAccount slot => Sys2Proof.Machine.execQueryAccount slot s
  | .findAccount code => Sys2Proof.Machine.execFindAccount code s
  | .settleAccount slot => Sys2Proof.Machine.execSettleAccount slot s
  | .fetchStatement slot => Sys2Proof.Machine.execFetchStatement slot s
  | .releaseStatement slot => Sys2Proof.Machine.execReleaseStatement slot s
  | .retireAccount slot => Sys2Proof.Machine.execRetireAccount slot s
  | .placeHold slot => Sys2Proof.Machine.execPlaceHold slot s
  | .releaseAllHolds => Sys2Proof.Machine.execReleaseAllHolds s
  | .setBandRate band rate => Sys2Proof.Machine.execSetBandRate band rate s
  | .setFuelPrice price => Sys2Proof.Machine.execSetFuelPrice price s
  | .setScheduleSlot hour band => Sys2Proof.Machine.execSetScheduleSlot hour band s
  | .queryTariff => Sys2Proof.Machine.execQueryTariff s
  | .energyPulse channel => Sys2Proof.Machine.execEnergyPulse channel s
  | .feedbackChange channel side level => Sys2Proof.Machine.execFeedbackChange channel side level s
  | .disagreementTimerExpiry channel side => Sys2Proof.Machine.execDisagreementTimerExpiry channel side s
  | .openCheckDeadline channel => Sys2Proof.Machine.execOpenCheckDeadline channel s
  | .intervalExpiry slot => Sys2Proof.Machine.execIntervalExpiry slot s
  | .openTimeout => Sys2Proof.Machine.execOpenTimeout s
  | .deadTimeExpiry => Sys2Proof.Machine.execDeadTimeExpiry s
  | .closeTimeout => Sys2Proof.Machine.execCloseTimeout s
  | .releaseDeadline => Sys2Proof.Machine.execReleaseDeadline s
  | .fallbackTimeout => Sys2Proof.Machine.execFallbackTimeout s
  | .fuelPulse position => Sys2Proof.Machine.execFuelPulse position s
  | .nozzleLift position => Sys2Proof.Machine.execNozzleLift position s
  | .hangUp position => Sys2Proof.Machine.execHangUp position s
  | .siteSecondAdvance => Sys2Proof.Machine.execSiteSecondAdvance s
  | .supplyOkFall => Sys2Proof.Machine.execSupplyOkFall s
  | .supplyOkRise => Sys2Proof.Machine.execSupplyOkRise s
  | .resumeTimerExpiry => Sys2Proof.Machine.execResumeTimerExpiry s
  | .resetNFall => Sys2Proof.Machine.execResetNFall s
  | .resetNRise straps => Sys2Proof.Machine.execResetNRise straps s
  | .coldStart straps pins => Sys2Proof.Machine.execColdStart straps pins s

end Sys2Proof.Machine
end

