-- ==== Sys2Proof/Machine/Tick.lean ====
section
/-! DEFINITION. The millisecond timebase (R167): which expiries are due, and what one millisecond does.
The step uses them when no command waits; DESIGN CHOICE, notes/assumptions/1.md. -/

namespace Sys2Proof.Machine

/-- The expiry of the transfer in hand that is due, if one is (R106). -/
def State.dueDeadline (s : State) : List Instr :=
  match s.deadlineDue with
  | none => []
  | some t =>
    match t.phase with
    | .opening => [.openTimeout]
    | .dead => [.deadTimeExpiry]
    | .closing => if t.releasing then [.releaseDeadline] else [.closeTimeout]
    | .fallback => [.fallbackTimeout]

/-- The sets whose interval has expired (R31). -/
def State.dueIntervals (s : State) : List Instr :=
  (slots.filter fun i =>
    match s.set? i with
    | some r => r.running && r.expiring
    | none => false).map .intervalExpiry

/-- The feeders' disagreement timers and open checks that have run out (R59, R62). -/
def State.dueWatches (s : State) : List Instr :=
  channels.flatMap fun ch =>
    (if s.watchDue ch .A then [.disagreementTimerExpiry ch .A] else []) ++
    (if s.watchDue ch .B then [.disagreementTimerExpiry ch .B] else []) ++
    (if s.active ch && (s.feeder ch).openCheck == some 0 then [.openCheckDeadline ch] else [])

/-- The expiries that are due at this moment. -/
def State.dueEvents (s : State) : List Instr :=
  s.dueDeadline ++ s.dueIntervals ++ s.dueWatches
    ++ (if s.secondDue then [.siteSecondAdvance] else [])
    ++ (if s.resumeDue then [.resumeTimerExpiry] else [])

/-- The expiry the step takes: the one that is due, or a free choice among several (R31, R63, R93;
notes/assumptions/2.md). -/
def State.dueChoice (s : State) : Option (Instr × State) :=
  match s.dueEvents with
  | [] => none
  | [c] => some (c, s)
  | c :: rest =>
    some ((c :: rest).getD (Config.pick s.choices % (rest.length + 1)) c, { s with choices := s.choices + 1 })

/-- The timer of a running set after one millisecond; at 59,999 ms it would reach 60,000 and its expiry
is due (R9, R31). -/
def SetRec.tick (r : SetRec) : SetRec :=
  if r.running then
    if r.timer < 59999 then { r with timer := r.timer + 1 } else { r with expiring := true }
  else r

/-- The transfer in hand after one millisecond; while RESET_N is low it is held (R106, R119). -/
def State.tickTransfer (s : State) : Option Transfer :=
  if s.pins.resetN then
    s.transfer.map fun t => { t with deadline := t.deadline - 1, elapsed := t.elapsed + 1 }
  else s.transfer

/-- An active feeder's open check and disagreement timers after one millisecond (R59, R62). -/
def State.tickFeeder (s : State) (ch : Channel) : State :=
  if s.active ch then
    (s.putFeeder ch { s.feeder ch with openCheck := (s.feeder ch).openCheck.map (· - 1) }).rewatch ch 1
  else s

/-- The resume timer after one millisecond (R172). -/
def SupplyMode.tick : SupplyMode → SupplyMode
  | .resuming ms => .resuming (ms + 1)
  | m => m

/-- One millisecond of the timebase (R167). -/
def State.tick (s : State) : State :=
  let s : State := { s with
    uptime := (s.uptime + 1) % 4294967296
    clock := { s.clock with millis := if s.clock.valid then s.clock.millis + 1 else s.clock.millis }
    mode := s.mode.tick
    sets := s.sets.map (Option.map SetRec.tick)
    transfer := s.tickTransfer }
  channels.foldl State.tickFeeder s

end Sys2Proof.Machine
end

