-- ==== Sys2Proof/Machine/Step.lean ====
section
/-! DEFINITION. The step: the command at the front of the queue, or, when none waits, the timebase. -/

namespace Sys2Proof.Machine

/-- Takes the command at the front of the queue. With an empty queue an expiry that is due is taken, and
otherwise one millisecond passes (notes/assumptions/1.md). -/
def step (s : State) : Host.Outcome State Fault Refusal :=
  match s.pending with
  | c :: rest => exec c { s with pending := rest }
  | [] =>
    match s.dueChoice with
    | some (c, s') => exec c s'
    | none => .next s.tick

/-- The state with the command a table word spells put at the front of its queue. No row of the table
has bits, so no word spells one (notes/assumptions/16.md). -/
def State.withFetchWord (s : State) (nbits w : Nat) : State :=
  match decodeTableWord nbits w with
  | some c => { s with pending := c :: s.pending }
  | none => s

end Sys2Proof.Machine
end

