-- ==== Sys2Proof/Safety.lean ====
section
/-! DEFINITION. What the statements speak of: fields of a result by their place, what a scan leaves
alone, and the conditions on a state that every step is to keep. -/

namespace Sys2Proof.Machine

/-! ## Readouts -/

/-- The figure that `len` bytes of a result hold from byte `off` on, most-significant byte first (R1). -/
def fieldAt (data : List Byte) (off len : Nat) : Nat :=
  ((data.drop off).take len).foldl (fun v b => 256 * v + b.toNat) 0

/-- The bit of an output stream that goes on with 00h: bit 0 is the most-significant bit of its first
byte (R180, R183). -/
def streamBit (out : List Byte) (k : Nat) : Bool := (out.getD (k / 8) 0).getLsbD (7 - k % 8)

/-- The command reads: it answers OK with `n` data bytes and changes nothing but the result buffer, SDO
driving 00h (R180), and each entry (first byte, bytes, figure) of the table stands at its place, cut to its width. -/
def State.Reads (s : State) (c : Instr) (n : Nat) (table : List (Nat × Nat × Nat)) : Prop :=
  ∃ data, exec c s = .next { s with sdo := .low, result := ⟨.ok, data⟩ } ∧ data.length = n
    ∧ ∀ x ∈ table, fieldAt data x.1 x.2.1 = x.2.2 % 256 ^ x.2.1

/-- A signed figure as the number its two's complement in `n` bytes spells (R189). -/
def signedField (n : Nat) (z : Int) : Nat := (z % (256 ^ n : Nat)).toNat

/-- A status that refuses a command (R4): every one but OK, CLAMPED and NONE. -/
def Status.refuses (st : Status) : Bool := st != .ok && st != .clamped && st != .none

/-- What a refused command answers (R3, R182): its status stands in the result with no data, SDO drove 00h
(R180), and nothing else changes. -/
def State.refused (s : State) (st : Status) : Host.Outcome State Fault Refusal :=
  .next { s with sdo := .low, result := ⟨st, []⟩ }

/-- The feedback monitor watches the feeder: it is DARK with no open check, ON_A or ON_B (R62). -/
abbrev Feeder.isWatched (f : Feeder) : Prop :=
  (f.state = .dark ∧ f.openCheck = none) ∨ f.state = .on .A ∨ f.state = .on .B

/-! ## Frames of shared work -/

/-- A set's record without its carried energy, the one part of it a flush reaches (R53, R70). -/
def SetRec.apartFromCarried (r : SetRec) : SetRec := { r with carried := [], overflow := 0 }

/-- What a feeder keeps through every transfer, fault and opening (R46, R48). -/
def Feeder.sameTerms (f g : Feeder) : Prop :=
  f.bound = g.bound ∧ f.account = g.account ∧ f.weight = g.weight ∧ f.deadTime = g.deadTime
    ∧ f.lifetime = g.lifetime ∧ f.demand = g.demand

/-- The records that no flush, take, end of a transfer, fault or scan reaches, with the port's own. -/
structure KeepsOtherRecords (s t : State) : Prop where
  uptime : t.uptime = s.uptime
  clock : t.clock = s.clock
  mode : t.mode = s.mode
  curves : t.curves = s.curves
  params : t.params = s.params
  positions : t.positions = s.positions
  suppliers : t.suppliers = s.suppliers
  accounts : t.accounts = s.accounts
  tariff : t.tariff = s.tariff
  sdo : t.sdo = s.sdo
  pending : t.pending = s.pending
  choices : t.choices = s.choices
  sets : ∀ i : SetSlot,
    (t.set? i).map SetRec.apartFromCarried = (s.set? i).map SetRec.apartFromCarried
  feeders : ∀ ch : Channel, (t.feeder ch).sameTerms (s.feeder ch)

/-! ## The contactors, the transfer in hand and the queue (R47, R49, R59, R84, R85, R104) -/

/-- Both drives open but that of one side. -/
def onlyClosed : Side → PerSide Bool
  | .A => ⟨true, false⟩
  | .B => ⟨false, true⟩

/-- The drives as a transfer's phase leaves them (R107 to R112). -/
def Transfer.drives (t : Transfer) : PerSide Bool :=
  match t.phase, t.fromSide with
  | .opening, _ => ⟨false, false⟩
  | .dead, _ => ⟨false, false⟩
  | .closing, _ => if t.releasing then ⟨false, false⟩ else onlyClosed t.target
  | .fallback, some d => onlyClosed d
  | .fallback, none => ⟨false, false⟩

/-- The drives as a feeder's state has them (R47); in TRANSFER they are as the sequencer drives them. -/
def State.drivesOf (s : State) (ch : Channel) : PerSide Bool :=
  match (s.feeder ch).state, s.transfer with
  | .on d, _ => onlyClosed d
  | .transfer, some t => t.drives
  | .transfer, none => ⟨false, false⟩
  | .dark, _ => ⟨false, false⟩
  | .fault, _ => ⟨false, false⟩

/-- The contactors, the feeders' states, the transfer in hand and the queue agree with each other. -/
structure State.Wired (s : State) : Prop where
  /-- The drives are those of the feeder's state (R47). -/
  drives : ∀ ch, (s.feeder ch).drive = s.drivesOf ch
  /-- A feeder is in TRANSFER exactly when the sequencer holds a transfer for it (R104). -/
  holds : ∀ ch, (s.feeder ch).state = .transfer ↔ s.transfer.map (·.feeder) = some ch
  /-- A fault cause stands in FAULT and in no other state (R48). -/
  causes : ∀ ch, (s.feeder ch).cause = .none ↔ (s.feeder ch).state ≠ .fault
  /-- A transfer runs from the other side or from DARK; one from DARK is in CLOSING (R105, R111). -/
  transfers : ∀ t ∈ s.transfer,
    (t.fromSide = none ∨ t.fromSide = some t.target.other)
      ∧ (t.fromSide = none → t.phase = .closing)
      ∧ (t.releasing = true → t.phase = .closing ∧ t.fromSide = none)
  /-- A feeder with an order is active, DARK or ON its other side (R85). -/
  orders : ∀ o ∈ s.queue, s.active o.feeder = true
    ∧ ((s.feeder o.feeder).state = .dark ∨ (s.feeder o.feeder).state = .on o.target.other)
  /-- At most one order for a feeder (R84). -/
  oneOrder : (s.queue.map (·.feeder)).Nodup
  /-- Start minutes never decrease from the front to the back (R84). -/
  inOrder : s.queue.Pairwise fun p q => p.startMin ≤ q.startMin
  /-- At most 8 orders (R83). -/
  atMostEight : s.queue.length ≤ 8
  /-- While an open check runs, the feeder is DARK (R59). -/
  openChecks : ∀ ch, (s.feeder ch).openCheck.isSome = true → (s.feeder ch).state = .dark
  /-- An inactive channel is DARK (R45, R66). -/
  inactive : ∀ ch, s.active ch = false → (s.feeder ch).state = .dark
  /-- A closed side is bound to a set (R47, R55). -/
  closedBound : ∀ ch d, (s.feeder ch).state = .on d → (s.boundSet ch d).isSome = true
  /-- The side an order targets is bound to a set (R83). -/
  targetBound : ∀ o ∈ s.queue, (s.boundSet o.feeder o.target).isSome = true
  /-- Both sides of a transfer in hand are bound (R104). -/
  transferBound : ∀ t ∈ s.transfer, (s.boundSet t.feeder t.target).isSome = true
    ∧ ∀ d ∈ t.fromSide, (s.boundSet t.feeder d).isSome = true

/-! ## Keys and references between records (R6, R7, R46, R68, R77, R124, R145, R146) -/

/-- No key stands twice, and every record that names another names one that exists. -/
structure State.Referenced (s : State) : Prop where
  /-- No two hired sets carry one unit number (R6, R11). -/
  units : ∀ i j, ∀ r ∈ s.set? i, ∀ q ∈ s.set? j, r.unit = q.unit → i = j
  /-- No two open accounts carry one account code (R146, R149). -/
  codes : ∀ a b, ∀ r ∈ s.account? a, ∀ q ∈ s.account? b, r.code = q.code → a = b
  /-- The house account is open (R145). -/
  house : (s.account? 0).isSome = true
  /-- No feeder side names a free set slot (R46). -/
  sides : ∀ ch d, ∀ i ∈ s.boundSet ch d, (s.set? i).isSome = true
  /-- No feeder's account slot names a free account slot (R46). -/
  payers : ∀ ch, (s.account? (s.feeder ch).account).isSome = true
  /-- A set's idle account is open (R7). -/
  idle : ∀ i, ∀ r ∈ s.set? i, (s.account? r.idle).isSome = true
  /-- A set's relief set is another hired set (R7, R22). -/
  relief : ∀ i, ∀ r ∈ s.set? i, ∀ j ∈ r.relief, j ≠ i ∧ (s.set? j).isSome = true
  /-- No carried entry refers to a free account slot (R73). -/
  carried : ∀ i, ∀ r ∈ s.set? i, ∀ p ∈ r.carried, (s.account? p.1).isSome = true
  /-- A ticket names a hired set and a registered supplier (R124). -/
  tickets : ∀ p, ∀ t ∈ (s.position p).ticket, (s.set? t.set).isSome = true
    ∧ (s.supplier t.supplier).docket ≠ .unregistered

/-! ## Ranges of the sets and the curves (R6 to R10, R19, R24, R25, R68) -/

/-- A set's figures stand in the ranges the manual gives them, and its conditions and its runtime match
them. -/
structure SetRec.InRange (r : SetRec) : Prop where
  rating : 10 ≤ r.rating ∧ r.rating ≤ 2000
  capacity : 50000 ≤ r.capacity ∧ r.capacity ≤ 4000000
  reserve : r.reserve ≤ r.capacity
  loadLimit : 500 ≤ r.loadLimit ∧ r.loadLimit ≤ 1100
  window : 2 ≤ r.window ∧ r.window ≤ 240
  timer : r.timer ≤ 59999
  stopped : r.running = false → r.timer = 0 ∧ r.expiring = false
  tank : r.tank ≤ r.capacity
  remainder : r.remainder < 3600
  rate : r.rate ≤ 250000
  load : r.load ≤ 9999
  runtime : r.runtime = runtimeOf r.tank r.rate
  inReserve : r.conds.reserve = true ↔ r.tank ≤ r.reserve
  dry : r.conds.dry = true ↔ r.tank = 0
  overloaded : r.conds.overload = true ↔ r.loadLimit < r.load
  entries : r.carried.length ≤ 4
  oneEntry : (r.carried.map (·.1)).Nodup
  amounts : ∀ p ∈ r.carried, 1 ≤ p.2 ∧ p.2 ≤ 4294967295
  overflow : r.overflow ≤ 4294967295
  runSeconds : r.runSeconds ≤ 4294967295
  burned : r.burned ≤ 4294967295
  credited : r.credited ≤ 4294967295
  overfill : r.overfill ≤ 4294967295
  dryCount : r.dryCount ≤ 65535

/-- Every hired set, every curve and the staging buffer stand in range. -/
structure State.SetsInRange (s : State) : Prop where
  sets : ∀ i, ∀ r ∈ s.set? i, r.InRange
  /-- The points of a curve never decrease (R24). -/
  rising : ∀ c : CurveNo, ∀ k : Fin 10, (s.curves[c]).points[k.val] ≤ (s.curves[c]).points[k.val + 1]
  highest : ∀ c : CurveNo, (s.curves[c]).points[10] ≤ 250000
  staged : ∀ g ∈ s.staging, g.points.length ≤ 10 ∧ g.points.Pairwise (· ≤ ·)
    ∧ ∀ v ∈ g.points, v ≤ 250000

/-! ## Ranges of the feeders, the accounts and the transfer parameters (R46, R48, R120, R147) -/

/-- The figures of the feeders, of the accounts and of the transfer parameters stand in range. -/
structure State.TotalsInRange (s : State) : Prop where
  weight : ∀ ch, (s.feeder ch).weight = 1 ∨ (s.feeder ch).weight = 10 ∨ (s.feeder ch).weight = 100
  deadTime : ∀ ch, 2 ≤ (s.feeder ch).deadTime ∧ (s.feeder ch).deadTime ≤ 30
  interval : ∀ ch, (s.feeder ch).interval ≤ 16777215
  lifetime : ∀ ch, (s.feeder ch).lifetime ≤ 4294967295
  demand : ∀ ch, (s.feeder ch).demand ≤ 4294967295
  band : ∀ a, ∀ r ∈ s.account? a, ∀ b : Band, r.band[b] ≤ 4294967295
  fuelShare : ∀ a, ∀ r ∈ s.account? a, r.fuelShare ≤ 4294967295
  energyAccrual : ∀ a, ∀ r ∈ s.account? a, r.energyAccrual ≤ 281474976710655
  fuelAccrual : ∀ a, ∀ r ∈ s.account? a, r.fuelAccrual ≤ 281474976710655
  statementNumber : ∀ a, ∀ r ∈ s.account? a, 1 ≤ r.nextStatement ∧ r.nextStatement ≤ 65535
  openTimeout : 50 ≤ s.params.openTimeout ∧ s.params.openTimeout ≤ 2000
  closeTimeout : 50 ≤ s.params.closeTimeout ∧ s.params.closeTimeout ≤ 2000
  minRuntime : s.params.minRuntime ≤ 600

/-! ## Tickets, positions and dockets (R123, R124, R138) -/

/-- A ticket's figures agree with each other (R124). -/
structure Ticket.InRange (t : Ticket) : Prop where
  ordered : t.ordered ≤ 4000000
  delivered : t.delivered ≤ 16777215
  liftMark : t.liftMark ≤ t.delivered
  remaining : t.remaining = max (-100000) ((t.ordered : Int) - t.delivered)
  lifts : t.lifts ≤ 255
  ready : t.state = .ready → t.delivered = 0
  atRest : t.state ≠ .dispensing → t.credited = t.delivered
  running : t.state = .dispensing → t.credited = t.liftMark
  preset : t.preset = true → t.remaining ≤ 0
  overrun : t.overrun = true ↔ t.remaining = -100000

/-- The positions and the supplier records stand in range. -/
structure State.FuelInRange (s : State) : Prop where
  tickets : ∀ p, ∀ t ∈ (s.position p).ticket, t.InRange
  stray : ∀ p, (s.position p).stray ≤ 16777215
  delivered : ∀ n, (s.supplier n).delivered ≤ 4294967295
  dockets : ∀ n k, (s.supplier n).docket = .next k → 1 ≤ k ∧ k ≤ 999999

/-! ## The port and the clock (R168, R172, R173, R175) -/

/-- The supply mode follows its line, a closed port holds no snapshot, a part held in reset holds no
flag, and the clock's fields stand in range. -/
structure State.PortAndClock (s : State) : Prop where
  /-- HOLDOVER is the mode while SUPPLY_OK is low (R172). -/
  modes : s.mode = .holdover ↔ s.pins.supplyOk = false
  /-- No frame is in progress while the port takes none (R173, R175). -/
  snapshots : s.portOpen = false → s.snapshot = none
  /-- Every flag is held clear while RESET_N is low (R175). -/
  held : s.pins.resetN = false → s.flags = 0
  minute : s.clock.minute ≤ 1048575
  second : s.clock.second ≤ 59
  /-- While the clock is INVALID, minute and second hold at 0 (R168). -/
  invalid : s.clock.valid = false → s.clock.minute = 0 ∧ s.clock.second = 0

end Sys2Proof.Machine
end

