-- ==== Sys2Proof/Certificates/Slice0/Obligations.lean ====
section
/-! DEFINITION. The statements about the part, each from the rules its docstring cites. -/

open Sys2Proof Sys2Proof.Machine

/-! ## The step -/

/-- Step takes the command at the front of the queue and runs it on the state with the queue's rest. -/
def Obligations.StepRunsTheFrontCommand : Prop :=
  ∀ (c : Instr) (rest : List Instr) (s : State),
    step { s with pending := c :: rest } = exec c { s with pending := rest }

/-- MODEL'S CHOICE (notes/assumptions/1.md, 2.md, 20.md): with an empty queue step runs the expiry that is
due, one of them when several are, and lets a millisecond pass when none is. An expiry is due exactly
when its own rule has it due (R31, R59, R62, R106, R119, R168, R172). The millisecond moves the count since
cold start (R171), the count towards the next second of a VALID clock (R168), the interval timers (R9; the
one that would reach 60,000 ms makes its expiry due), a transfer's times unless RESET_N holds it (R106,
R119), the open checks (R59), the disagreement timers (R62) and the resume timer (R172), and nothing else. -/
def Obligations.IdleStepTakesAnExpiryOrAMillisecond : Prop :=
  (∀ s : State, s.pending = [] →
    (s.dueEvents = [] → step s = .next s.tick)
    ∧ (∀ c, s.dueEvents = [c] → step s = exec c s)
    ∧ (2 ≤ s.dueEvents.length →
        ∃ c ∈ s.dueEvents, step s = exec c { s with choices := s.choices + 1 }))
  ∧ (∀ s : State, s.dueEvents.Nodup ∧ ∀ c : Instr,
      let out (is : Transfer → Prop) : Prop :=
        ∃ t, s.transfer = some t ∧ s.pins.resetN = true ∧ t.deadline = 0 ∧ is t
      c ∈ s.dueEvents ↔ match c with
        | .openTimeout => out fun t => t.phase = .opening
        | .deadTimeExpiry => out fun t => t.phase = .dead
        | .closeTimeout => out fun t => t.phase = .closing ∧ t.releasing = false
        | .releaseDeadline => out fun t => t.phase = .closing ∧ t.releasing = true
        | .fallbackTimeout => out fun t => t.phase = .fallback
        | .intervalExpiry i => ∃ r, s.set? i = some r ∧ r.running = true ∧ r.expiring = true
        | .disagreementTimerExpiry ch d => s.active ch = true ∧ (s.feeder ch).isWatched
            ∧ (s.feeder ch).drive.get d ≠ s.fbClosed ch d
            ∧ ∃ ms, (s.feeder ch).watch.get d = some ms ∧ s.params.closeTimeout < ms
        | .openCheckDeadline ch => s.active ch = true ∧ (s.feeder ch).openCheck = some 0
        | .siteSecondAdvance => s.clock.valid = true ∧ 1000 ≤ s.clock.millis
        | .resumeTimerExpiry => ∃ ms, s.mode = .resuming ms ∧ 2000 ≤ ms
        | _ => False)
  ∧ (∀ s : State,
      let t := s.tick
      t = { s with
        uptime := (s.uptime + 1) % 4294967296
        clock := { s.clock with millis := s.clock.millis + if s.clock.valid then 1 else 0 }
        mode := t.mode, sets := t.sets, feeders := t.feeders
        transfer := if s.pins.resetN then
            s.transfer.map fun t => { t with deadline := t.deadline - 1, elapsed := t.elapsed + 1 }
          else s.transfer }
      ∧ (∀ ms, s.mode = .resuming ms → t.mode = .resuming (ms + 1))
      ∧ (s.mode = .active ∨ s.mode = .holdover → t.mode = s.mode)
      ∧ (∀ i, s.set? i = none → t.set? i = none)
      ∧ (∀ i r, s.set? i = some r →
          (r.running = false → t.set? i = some r)
          ∧ (r.running = true → r.timer < 59999 → t.set? i = some { r with timer := r.timer + 1 })
          ∧ (r.running = true → 59999 ≤ r.timer → t.set? i = some { r with expiring := true }))
      ∧ (∀ ch, s.active ch = false → t.feeder ch = s.feeder ch)
      ∧ (∀ ch, s.active ch = true →
          let f := s.feeder ch
          let timer (d : Side) : Option Nat :=
            if f.isWatched ∧ f.drive.get d ≠ s.fbClosed ch d then some ((f.watch.get d).getD 0 + 1) else none
          t.feeder ch = { f with openCheck := f.openCheck.map (· - 1), watch := ⟨timer .A, timer .B⟩ }))

/-- MODEL'S READING (notes/assumptions/22.md: no command and no event stops the machine; 3.md, 7.md: an
expiry that is not due and a line that has its level already change nothing): every command and event
answers a next state, with the queue as it was. -/
def Obligations.EveryCommandCompletes : Prop :=
  ∀ (c : Instr) (s : State), ∃ t, exec c s = .next t ∧ t.pending = s.pending

/-! ## The command port and attention -/

/-- R180, R183: Fetch Result drives 00h on bytes 0 and 1, and then the status, the result length, the data
and 00h, most-significant bit first, for as many bits as the host clocks; SDO is released after the last.
Nothing else changes. What SDO did over the frame is kept in `sdo` (notes/assumptions/15.md). -/
def Obligations.FetchResultDrivesTheBuffer : Prop :=
  ∀ (s : State) (n : Nat), s.portOpen = true →
    ∃ t, exec (.fetchResult n) s = .next t
      ∧ t = { s with sdo := t.sdo }
      ∧ t.sdoNow = s.sdoNow
      ∧ ∀ k, t.sdo.level k =
          if k < 16 then some false
          else if k < 16 + n then some (streamBit
            ([BitVec.ofNat 8 s.result.status.code, BitVec.ofNat 8 s.result.data.length] ++ s.result.data)
            (k - 16))
          else none

/-- R180, R187: the snapshot is what Read Attention drives after the 00h of bytes 0 and 1; at the rise of
SEL_N a flag of the snapshot is cleared if both bytes were clocked whole and it was not raised again in
between (`fs`), and every flag raised in between with its mask bit set stays set. MODEL'S READING: the two
rows of one frame (notes/assumptions/9.md), and a flag of the snapshot that is raised again while its mask
bit is 0 is cleared (notes/assumptions/10.md). -/
def Obligations.ReadAttentionLosesNoNotice : Prop :=
  ∀ (s : State) (fs : List Flag) (n : Nat), s.portOpen = true →
    ∃ s1 t, exec .snapshot s = .next s1
      ∧ s1 = { s with snapshot := some ⟨s.flags, 0⟩ } ∧ s1.sdoNow = some false ∧ t.sdoNow = none
      ∧ exec (.readAttention n) (fs.foldl State.raise s1) = .next t
      ∧ t = { s with snapshot := none, sdo := t.sdo, flags := t.flags }
      ∧ (∀ f : Flag, t.flags.getLsbD f.bit =
          ((decide (n < 16) && s.flags.getLsbD f.bit) || (decide (f ∈ fs) && s.mask.getLsbD f.bit)))
      ∧ ∀ k, t.sdo.level k =
          if k < 16 then some false
          else if k < 16 + n then
            some (streamBit [s.flags.extractLsb' 8 8, s.flags.extractLsb' 0 8] (k - 16))
          else none

/-- R185, R186, R188: Set Attention Mask stores the mask whole; a raised flag is set only with its mask
bit 1 and RESET_N high, and no other flag changes; ATTN_N is low exactly while a flag is set, the mode is
ACTIVE and RESET_N is high. -/
def Obligations.MaskGatesNoticesAndTheLineFollowsTheFlags : Prop :=
  (∀ (s : State) (m : BitVec 16), s.portOpen = true →
    exec (.setAttentionMask m) s = .next { s with mask := m, sdo := .low, result := ⟨.ok, be 2 m.toNat⟩ })
  ∧ (∀ (s : State) (f g : Flag), (s.raise f).flags.getLsbD g.bit =
      (s.flags.getLsbD g.bit || (decide (f = g) && s.pins.resetN && s.mask.getLsbD f.bit)))
  ∧ (∀ (s : State) (f : Flag),
      s.raise f = { s with flags := (s.raise f).flags, snapshot := (s.raise f).snapshot })
  ∧ (∀ s : State, s.attnLow = true ↔
      (∃ f : Flag, s.flags.getLsbD f.bit = true) ∧ s.mode = .active ∧ s.pins.resetN = true)

/-- R181, R182: a frame the port has taken is judged in order, by the whole bytes its sampled bits make and the
bits left over (R180): no whole byte, ignored; a code that is not in the table, UNKNOWN; a count byte not
whole, a count above 40 or not taken by the command, or a wrong number of parameter bytes, LENGTH. Neither changes anything but the result. SDO drives 00h throughout each
of them (R180). -/
def Obligations.ImproperFramesAreIgnoredOrRefused : Prop :=
  (∀ code : Byte, (countsOf code.toNat).isSome = true ↔ code.toNat ∈
    [0x01, 0x02, 0x03, 0x04, 0x05, 0x06, 0x07, 0x10, 0x11, 0x12, 0x13, 0x14, 0x15, 0x16, 0x18, 0x19,
     0x1A, 0x20, 0x21, 0x22, 0x23, 0x24, 0x25, 0x30, 0x31, 0x32, 0x33, 0x34, 0x40, 0x41, 0x42, 0x43,
     0x44, 0x45, 0x46, 0x50, 0x51, 0x52, 0x53, 0x54, 0x55, 0x56, 0x57, 0x58, 0x59, 0x5A, 0x5B, 0x5C])
  ∧ ∀ s : State, s.portOpen = true →
    (∀ bits, bits.length < 8 → exec (.unknownCommand ⟨bits, true⟩) s = .next { s with sdo := .low })
    ∧ (∀ k, Sdo.low.level k = some false)
    ∧ (∀ (f : Frame) (code : Byte) (rest : List Byte), f.taken = true → f.bytes = code :: rest →
        countsOf code.toNat = none →
        exec (.unknownCommand f) s = .next { s with sdo := .low, result := ⟨.unknown, []⟩ })
    ∧ (∀ (f : Frame) (code : Byte) (counts : List Nat), f.taken = true → f.bytes = [code] →
        countsOf code.toNat = some counts →
        exec (.unknownCommand f) s = .next { s with sdo := .low, result := ⟨.length, []⟩ })
    ∧ (∀ (f : Frame) (code n : Byte) (p : List Byte) (counts : List Nat), f.taken = true →
        f.bytes = code :: n :: p → countsOf code.toNat = some counts →
        (40 < n.toNat ∨ n.toNat ∉ counts
          ∨ (code.toNat ≠ 1 ∧ code.toNat ≠ 2 ∧ (p.length ≠ n.toNat ∨ f.bits.length % 8 ≠ 0))) →
        exec (.unknownCommand f) s = .next { s with sdo := .low, result := ⟨.length, []⟩ })

/-- R180, R181, R192: of the bits sampled in a frame each eight make one whole byte, the first sampled its
most-significant bit, and a last part byte makes none. The frame written for a well-formed command is judged
to carry out that command, with every parameter at every value. -/
def Obligations.FramesSpellTheirCommands : Prop :=
  (∀ f : Frame, f.bytes.length = f.bits.length / 8
    ∧ ∀ k j : Nat, j < 8 → 8 * k + 8 ≤ f.bits.length →
        (f.bytes.getD k 0).getMsbD j = f.bits.getD (8 * k + j) false)
  ∧ ∀ (c : Instr) (f : Frame), c.wf = true → frameOf c = some f → f.taken = true ∧ judge f = .carryOut c

/-- R181 step 6: a whole frame has the effect of the command it carries, Read Attention with the snapshot
that its byte 1 took, or takes when the frame comes whole. MODEL'S READING: a frame from the row
UNKNOWN_COMMAND that passes every judgement is carried out (notes/assumptions/21.md), and a whole frame
coded 02h takes its snapshot with it if none is held (notes/assumptions/9.md). -/
def Obligations.AFrameCarriesOutItsCommand : Prop :=
  (∀ (c : Instr) (f : Frame) (s : State), c.wf = true → frameOf c = some f →
    (∀ n, c ≠ .readAttention n) → exec (.unknownCommand f) s = exec c s)
  ∧ (∀ (n : Nat) (f : Frame) (s : State), frameOf (.readAttention n) = some f → s.portOpen = true →
      exec (.unknownCommand f) s = exec (.readAttention n)
        (if s.snapshot.isSome then s else { s with snapshot := some ⟨s.flags, 0⟩ }))

/-- R173, R175, R180: in HOLDOVER, in RESUMING and while RESET_N is low the port takes no frame: no command
is carried out, no result written and no flag cleared, and SDO stays released over the whole frame. A frame
the port did not take from its fall to its rise has the same end, whenever it ends. MODEL'S READING: a Read
Attention row with no snapshot held, also with the port open, is the end of an abandoned frame and changes
nothing (notes/assumptions/9.md). MODEL'S CHOICE: an abandoned frame counts as not taken, SDO released over
its whole length, also before the abandonment (notes/assumptions/15.md). -/
def Obligations.ClosedPortTakesNoFrame : Prop :=
  (∀ s : State, s.portOpen = false →
    (∀ c : Instr, (wire c).isSome = true → exec c s = .next { s with sdo := .released })
    ∧ (∀ n, exec (.fetchResult n) s = .next { s with sdo := .released })
    ∧ exec .snapshot s = .next s
    ∧ (∀ n, exec (.readAttention n) s = .next { s with sdo := .released, snapshot := none })
    ∧ (∀ f, exec (.unknownCommand f) s = .next { s with sdo := .released }))
  ∧ (∀ (s : State) (f : Frame), f.taken = false →
      exec (.unknownCommand f) s = .next { s with sdo := .released })
  ∧ (∀ (s : State) (n : Nat), s.snapshot = none →
      exec (.readAttention n) s = .next { s with sdo := .released })
  ∧ ∀ k, Sdo.released.level k = none

/-- R3, R180, R182: a command that is refused changes nothing but the result buffer; SDO drives 00h over its
frame. (With the port closed it is no command: nothing changes, and SDO is released.) -/
def Obligations.RefusedCommandsChangeNothing : Prop :=
  ∀ (c : Instr) (s t : State), (wire c).isSome = true → exec c s = .next t →
    t.result.status.refuses = true →
    t = { s with result := t.result, sdo := if s.portOpen then .low else .released }

/-- R5, R13, R16, R26, R45, R56, R60, R86, R123, R126, R138, R145, R155: an operand that names no slot,
channel, side, position, supplier, curve, band, hour or account is refused with RANGE, and one that names a
free slot, an inactive channel or an account that is not open with NO_RECORD. Amend Set makes its checks of
slot, curve, idle account and relief set in that order. MODEL'S READING: where a rule does not number its
checks, RANGE comes before NO_RECORD (R14, R56; notes/assumptions/12.md). -/
def Obligations.OperandsThatNameNothingAreRefused : Prop :=
  ∀ (s : State) (b x y z w : Byte), s.portOpen = true →
    let range := s.refused .range
    let noRecord := s.refused .noRecord
    ((b.toNat = 0 ∨ 24 < b.toNat) →
      (∀ v, exec (.querySet b v) s = range) ∧ exec (.reportRun b x) s = range
      ∧ (∀ v l, exec (.amendSet b x v l y z w) s = range)
      ∧ (∀ v, exec (.dipSet b v) s = range) ∧ exec (.offHireSet b) s = range)
    ∧ (∀ i : SetSlot, b.toNat = i.val + 1 → s.set? i = none →
      (∀ v, exec (.querySet b v) s = noRecord)
      ∧ (x.toNat ≤ 1 → exec (.reportRun b x) s = noRecord)
      ∧ (∀ v l, exec (.amendSet b x v l y z w) s = noRecord)
      ∧ (∀ v, exec (.dipSet b v) s = noRecord) ∧ exec (.offHireSet b) s = noRecord)
    ∧ (∀ i : SetSlot, ∀ (v : BitVec 32) (l : BitVec 16), b.toNat = i.val + 1 → (s.set? i).isSome = true →
      let amend := exec (.amendSet b x v l y z w) s
      (6 ≤ x.toNat → amend = range)
      ∧ (x.toNat < 6 → 64 ≤ y.toNat → amend = range)
      ∧ ∀ a : AccountSlot, x.toNat < 6 → y.toNat = a.val →
        (s.account? a = none → amend = noRecord)
        ∧ ((s.account? a).isSome = true →
          (24 < z.toNat ∨ z.toNat = i.val + 1 → amend = range)
          ∧ ∀ j : SetSlot, z.toNat = j.val + 1 → j ≠ i → s.set? j = none → amend = noRecord))
    ∧ (16 ≤ b.toNat →
      (∀ w, exec (.setFeederParameters b x w) s = range) ∧ (∀ w, exec (.bindSide b x w) s = range)
      ∧ exec (.assignFeederAccount b x) s = range ∧ exec (.openFeeder b) s = range
      ∧ exec (.reconcileFeeder b) s = range ∧ exec (.queryFeeder b) s = range
      ∧ (∀ m n, exec (.enqueueOrder b x m n) s = range) ∧ exec (.cancelOrder b) s = range)
    ∧ (2 ≤ x.toNat → (∀ w, exec (.bindSide b x w) s = range)
      ∧ ∀ m n, exec (.enqueueOrder b x m n) s = range)
    ∧ (∀ ch : Channel, b.toNat = ch.val → s.active ch = false →
      exec (.openFeeder b) s = noRecord ∧ exec (.reconcileFeeder b) s = noRecord
      ∧ exec (.queryFeeder b) s = noRecord ∧ exec (.cancelOrder b) s = noRecord)
    ∧ (4 ≤ b.toNat →
      exec (.queryPosition b) s = range ∧ exec (.cancelTicket b) s = range
      ∧ exec (.setPermitMode b x) s = range ∧ (∀ d, exec (.closeTicket b d) s = range)
      ∧ exec (.querySupplier b) s = range ∧ (∀ d, exec (.registerSupplier b d) s = range)
      ∧ (∀ r, exec (.setBandRate b r) s = range) ∧ exec (.setScheduleSlot x b) s = range)
    ∧ (4 ≤ b.toNat ∨ x.toNat = 0 ∨ 24 < x.toNat ∨ 4 ≤ y.toNat →
      ∀ q, exec (.openTicket b x y q) s = range)
    ∧ (6 ≤ b.toNat → exec (.beginCurve b) s = range ∧ exec (.queryCurve b) s = range)
    ∧ (24 ≤ b.toNat → exec (.setScheduleSlot b x) s = range)
    ∧ (64 ≤ b.toNat →
      exec (.queryAccount b) s = range ∧ exec (.settleAccount b) s = range
      ∧ exec (.fetchStatement b) s = range ∧ exec (.releaseStatement b) s = range
      ∧ exec (.retireAccount b) s = range ∧ exec (.placeHold b) s = range
      ∧ exec (.assignFeederAccount x b) s = range)
    ∧ (∀ a : AccountSlot, b.toNat = a.val → s.account? a = none →
      exec (.queryAccount b) s = noRecord ∧ exec (.settleAccount b) s = noRecord
      ∧ exec (.fetchStatement b) s = noRecord ∧ exec (.releaseStatement b) s = noRecord
      ∧ (a ≠ 0 → exec (.retireAccount b) s = noRecord) ∧ exec (.placeHold b) s = noRecord)

/-! ## Readouts (R189 to R193) -/

/-- R159, R171, R184, R193: Identify, Query Clock and Query Tariff change nothing and return their figures
at the places the tables give. MODEL'S CHOICE: bits of a byte that the tables give no meaning read 0
(notes/assumptions/30.md). -/
def Obligations.IdentityClockAndTariffReadouts : Prop :=
  ∀ s : State, s.portOpen = true →
    let hour := s.clock.minute / 60 % 24
    let schedule (f : TariffItem Band → Nat) (width : Nat) : Nat :=
      s.tariff.schedule.toList.foldl (fun v i => width * v + f i) 0
    let band : Band := if s.clock.valid then (s.tariff.schedule.toList.getD hour ⟨0, none⟩).live else 0
    s.Reads .identify 13
      [(0, 1, 0x42), (1, 2, 7416), (3, 1, 0x43),
       (4, 1, s.straps.feeders8.toNat + 2 * s.straps.fuelFine.toNat + 4 * s.straps.fbLow.toNat),
       (5, 1, 24), (6, 1, if s.straps.feeders8 then 8 else 16), (7, 1, 64), (8, 1, 4), (9, 1, 4),
       (10, 1, 6), (11, 1, 8), (12, 1, 0)]
    ∧ s.Reads .queryClock 10
      [(0, 1, s.clock.valid.toNat + 2 * (s.clock.valid && s.clock.minute == 1048575).toNat),
       (1, 3, s.clock.minute), (4, 1, s.clock.second),
       (5, 1, if s.clock.valid then hour else 255), (6, 4, s.uptime)]
    ∧ s.Reads .queryTariff 40
      ([(0, 1, (s.tariff.rates[0]).waiting.isSome.toNat + 2 * (s.tariff.rates[1]).waiting.isSome.toNat
          + 4 * (s.tariff.rates[2]).waiting.isSome.toNat + 8 * (s.tariff.rates[3]).waiting.isSome.toNat
          + 16 * s.tariff.price.waiting.isSome.toNat + 128 * s.clock.valid.toNat)]
       ++ (List.finRange 4).map (fun b => (1 + 2 * b.val, 2, (s.tariff.rates[b]).live))
       ++ (List.finRange 4).map (fun b => (9 + 2 * b.val, 2, (s.tariff.rates[b]).waiting.getD 0))
       ++ [(17, 2, s.tariff.price.live), (19, 2, s.tariff.price.waiting.getD 0),
           (21, 6, schedule (·.live.val) 4), (27, 3, schedule (·.waiting.isSome.toNat) 2),
           (30, 6, schedule (fun i => (i.waiting.map (·.val)).getD 0) 4),
           (36, 1, if s.clock.valid then hour else 255), (37, 1, band.val),
           (38, 2, (s.tariff.rates[band]).live)])

/-- R13, R190, R191: the two views of Query Set. R12: Find Set returns the slot of the hired set that
carries a unit number, else NO_RECORD. R29, R192: Query Curve. MODEL'S READING: the point index reads 0 while
no staging is open for the curve (notes/assumptions/29.md). MODEL'S CHOICE: bits of a byte that the layout
gives no meaning read 0 (notes/assumptions/30.md). -/
def Obligations.SetAndCurveReadouts : Prop :=
  ∀ s : State, s.portOpen = true →
    (∀ (b : Byte) (i : SetSlot) (r : SetRec) (view : Option Byte), b.toNat = i.val + 1 → s.set? i = some r →
      ((view.getD 0).toNat = 0 → s.Reads (.querySet b view) 50
        [(0, 1, i.val + 1), (1, 4, r.unit.toNat), (5, 2, r.rating), (7, 3, r.capacity),
         (10, 1, r.curve.val), (11, 2, r.minHire), (13, 3, r.dayRate), (16, 3, r.hireStart),
         (19, 3, r.reserve), (22, 2, r.loadLimit), (24, 1, r.idle.val),
         (25, 1, (r.relief.map (·.val + 1)).getD 0), (26, 1, r.window),
         (27, 1, r.running.toNat + 16 * r.conds.reserve.toNat + 32 * r.conds.dry.toNat
           + 64 * r.conds.overload.toNat + 128 * r.conds.uncosted.toNat),
         (28, 2, r.timer), (30, 3, r.tank), (33, 2, r.remainder), (35, 3, r.rate), (38, 2, r.load),
         (40, 2, r.runtime), (42, 4, min 4294967295 (s.committed i)),
         (46, 4, signedField 4 (max (-2147483648) (s.headroom i r)))])
      ∧ ((view.getD 0).toNat = 1 → s.Reads (.querySet b view) 44
        ([(0, 1, i.val + 1), (1, 1, r.carried.length)]
         ++ (List.range 4).flatMap (fun k =>
              [(2 + 5 * k, 1, (r.carried.map (·.1.val)).getD k 0), (3 + 5 * k, 4, (r.carried.map (·.2)).getD k 0)])
         ++ [(22, 4, r.overflow), (26, 4, r.runSeconds), (30, 4, r.burned), (34, 4, r.credited),
             (38, 4, r.overfill), (42, 2, r.dryCount)]))
      ∧ (2 ≤ (view.getD 0).toNat →
          exec (.querySet b view) s = .next { s with sdo := .low, result := ⟨.range, []⟩ }))
    ∧ (∀ (unit : BitVec 32) (i : SetSlot) (r : SetRec), s.set? i = some r → r.unit = unit →
        (∀ j q, s.set? j = some q → q.unit = unit → j = i) →
        s.Reads (.findSet unit) 1 [(0, 1, i.val + 1)])
    ∧ (∀ unit : BitVec 32, (∀ j q, s.set? j = some q → q.unit ≠ unit) →
        exec (.findSet unit) s = .next { s with sdo := .low, result := ⟨.noRecord, []⟩ })
    ∧ (∀ (b : Byte) (c : CurveNo), b.toNat = c.val →
        let staged : List Nat := match s.staging with
          | some g => if g.curve = c then g.points else []
          | none => []
        s.Reads (.queryCurve b) (34 + 3 * staged.length)
          ([(0, 1, (s.curves[c]).complete.toNat + 2 * (s.staging.map (·.curve) == some c).toNat
              + 16 * staged.length)]
           ++ (List.finRange 11).map (fun k => (1 + 3 * k.val, 3, (s.curves[c]).points[k]))
           ++ (List.range staged.length).map (fun k => (34 + 3 * k, 3, staged.getD k 0))))

/-- R61, R191: Query Feeder of an active channel. R102, R192: Query Queue. R122, R191: Query Sequencer.
That an absent last transfer and an empty last-outcome record read 00h beside what R191 gives is the
model's reading of R189 (notes/assumptions/13.md). MODEL'S CHOICE: bits of a byte that the layout gives no
meaning read 0 (notes/assumptions/30.md). -/
def Obligations.FeederQueueAndSequencerReadouts : Prop :=
  ∀ s : State, s.portOpen = true →
    (∀ (b : Byte) (ch : Channel), b.toNat = ch.val → s.active ch = true →
      let f := s.feeder ch
      s.Reads (.queryFeeder b) 27
        [(0, 1, ch.val), (1, 1, slotCode f.bound.a), (2, 1, slotCode f.bound.b), (3, 1, f.account.val),
         (4, 1, f.weight), (5, 1, f.deadTime), (6, 1, f.state.code), (7, 1, f.cause.code),
         (8, 1, slotCode (match f.state with
           | .on d => f.bound.get d
           | _ => none)),
         (9, 1, f.drive.a.toNat + 2 * f.drive.b.toNat + 4 * (s.fbClosed ch .A).toNat
           + 8 * (s.fbClosed ch .B).toNat + 16 * (s.disagrees ch .A).toNat
           + 32 * (s.disagrees ch .B).toNat + 64 * f.openCheck.isSome.toNat),
         (10, 3, f.interval), (13, 4, f.lifetime), (17, 4, f.demand),
         (21, 1, (f.last.map fun l => sideCode (some l.target)).getD 0),
         (22, 1, (f.last.map (·.outcome.code)).getD 0), (23, 1, (f.last.map (·.reason.code)).getD 0),
         (24, 3, (f.last.map (·.minute)).getD 0)])
    ∧ s.Reads .queryQueue (2 + 7 * s.queue.length)
        ([(0, 1, s.queue.length), (1, 1, (s.transfer.map fun t => 128 + t.feeder.val).getD 0)]
         ++ s.queue.zipIdx.flatMap fun (o, k) =>
              [(2 + 7 * k, 2, o.feeder.val * 4096 + sideCode (some o.target) * 2048
                  + slotCode ((s.feeder o.feeder).bound.get o.target) * 64
                  + (if o.origin = .relief then 32 else 0) + o.wait.code),
               (4 + 7 * k, 5, o.startMin * 1048576 + o.endMin)])
    ∧ s.Reads .querySequencer 31
        ((match s.transfer with
          | none => (List.range 12).map fun k => (k, 1, 0)
          | some t =>
            [(0, 1, t.phase.code + 8 * t.releasing.toNat), (1, 1, t.feeder.val), (2, 1, sideCode t.fromSide),
             (3, 1, slotCode (t.fromSide.bind fun d => (s.feeder t.feeder).bound.get d)),
             (4, 1, sideCode (some t.target)),
             (5, 1, slotCode ((s.feeder t.feeder).bound.get t.target)), (6, 1, t.deadTime),
             (7, 1, match t.fallback with
               | none => 0
               | some .targetStopped => 3
               | some .closeTimeout => 2),
             (8, 2, t.deadline), (10, 2, t.elapsed)])
         ++ (match s.lastOutcome with
          | none => (12, 1, 255) :: (List.range 12).map fun k => (13 + k, 1, 0)
          | some l =>
            [(12, 1, l.feeder.val), (13, 1, sideCode l.fromSide), (14, 1, slotCode l.fromSet),
             (15, 1, sideCode (some l.target)), (16, 1, slotCode l.targetSet), (17, 1, l.outcome.code),
             (18, 1, l.reason.code), (19, 1, l.phase.code + 8 * l.releasing.toNat), (20, 3, l.minute),
             (23, 2, l.elapsed)])
         ++ [(25, 2, s.params.openTimeout), (27, 2, s.params.closeTimeout), (29, 2, s.params.minRuntime)])

/-- R143, R144, R150, R151, R163, R191, R193: the readouts of positions, suppliers, accounts and
statements. MODEL'S CHOICE: bits of a byte that the layout gives no meaning read 0
(notes/assumptions/30.md). -/
def Obligations.FuelAndAccountReadouts : Prop :=
  ∀ s : State, s.portOpen = true →
    (∀ (b : Byte) (p : PositionNo), b.toNat = p.val →
      let q := s.position p
      s.Reads (.queryPosition b) 27
        ([(0, 1, p.val), (1, 1, q.mode.code),
          (2, 1, q.permitOn.toNat + 2 * (s.pins.nozzle[p]).toNat + 4 * s.straps.fuelFine.toNat),
          (3, 3, q.stray)]
         ++ (match q.ticket with
          | none => (List.range 21).map fun k => (6 + k, 1, 0)
          | some t =>
            [(6, 1, match t.state with
               | .ready => 1
               | .dispensing => 2
               | .paused => 3),
             (7, 1, t.preset.toNat + 2 * t.overrun.toNat), (8, 1, t.set.val + 1), (9, 1, t.supplier.val),
             (10, 3, t.ordered), (13, 4, signedField 4 t.remaining), (17, 3, t.delivered),
             (20, 3, t.liftMark), (23, 3, t.credited), (26, 1, t.lifts)])))
    ∧ (∀ (b : Byte) (n : SupplierNo), b.toNat = n.val →
      let r := s.supplier n
      s.Reads (.querySupplier b) 16
        ([(0, 1, n.val), (1, 1, if r.docket = .unregistered then 0 else 1), (2, 3, r.docket.code),
          (5, 3, r.closed), (8, 4, r.delivered)]
         ++ (List.finRange 4).map fun p => (12 + p.val, 1,
              match (s.position p).ticket with
              | none => 0
              | some t => if t.supplier = n then (match t.state with
                  | .ready => 1
                  | .dispensing => 2
                  | .paused => 3) else 0)))
    ∧ (∀ (b : Byte) (a : AccountSlot) (r : Account), b.toNat = a.val → s.account? a = some r →
        r.label.length ≤ 16 →
      let under := s.sets.toList.flatMap fun x => (x.map (·.carried)).getD []
      let mine := (under.filter fun p => p.1 == a).map (·.2)
      s.Reads (.queryAccount b) 64
        ([(0, 4, r.code.toNat),
          (4, 1, r.label.length + 32 * r.hold.toNat + 64 * r.saturated.toNat + 128 * r.statement.isSome.toNat)]
         ++ (List.range 16).map (fun k => (5 + k, 1, (r.label.getD k 0).toNat))
         ++ (List.finRange 4).map (fun k => (21 + 4 * k.val, 4, r.band[k]))
         ++ [(37, 6, r.energyAccrual), (43, 4, r.fuelShare), (47, 6, r.fuelAccrual),
             (53, 3, r.periodStart), (56, 2, r.nextStatement),
             (58, 2, 1024 * (s.feeders.toList.filter fun f => f.account == a).length
               + 32 * (s.sets.toList.filter fun x => x.map (·.idle) == some a).length + mine.length),
             (60, 4, min 4294967295 mine.sum)]))
    ∧ (∀ (code : BitVec 32) (a : AccountSlot) (r : Account), s.account? a = some r → r.code = code →
        (∀ j q, s.account? j = some q → q.code = code → j = a) →
        s.Reads (.findAccount code) 1 [(0, 1, a.val)])
    ∧ (∀ code : BitVec 32, (∀ j q, s.account? j = some q → q.code ≠ code) →
        exec (.findAccount code) s = .next { s with sdo := .low, result := ⟨.noRecord, []⟩ })
    ∧ (∀ (b : Byte) (a : AccountSlot) (r : Account) (st : Statement), b.toNat = a.val →
        s.account? a = some r → r.statement = some st →
        s.Reads (.fetchStatement b) 49
          ([(0, 1, a.val), (1, 4, r.code.toNat), (5, 2, st.number), (7, 3, st.periodStart),
            (10, 3, st.periodEnd)]
           ++ (List.finRange 4).map (fun k => (13 + 4 * k.val, 4, st.band[k]))
           ++ [(29, 4, st.fuel), (33, 5, st.energyCents), (38, 5, st.fuelCents), (43, 5, st.totalCents),
               (48, 1, st.saturated.toNat)]))
    ∧ (∀ (b : Byte) (a : AccountSlot) (r : Account), b.toNat = a.val → s.account? a = some r →
        r.statement = none → exec (.fetchStatement b) s = .next { s with sdo := .low, result := ⟨.noRecord, []⟩ })

/-! ## Clock, supply and reset (chapter 9) -/

/-- R156, R170, R90: Set Clock refuses a minute above 1,048,575; else the clock becomes VALID at that
minute, second 0; every pending tariff value becomes live; every order whose end minute has been reached
expires front to back; and the queue scans. -/
def Obligations.SetClockMovesTheMinute : Prop :=
  ∀ (s : State) (m : BitVec 24), s.portOpen = true →
    (1048575 < m.toNat → exec (.setClock m) s = .next { s with sdo := .low, result := ⟨.range, []⟩ })
    ∧ (m.toNat ≤ 1048575 →
      let live {α : Type} (i : TariffItem α) : TariffItem α := ⟨i.waiting.getD i.live, none⟩
      let tariff : Tariff :=
        ⟨s.tariff.rates.map live, live s.tariff.price, s.tariff.schedule.map live⟩
      let set : State := { s with clock := ⟨true, m.toNat, 0, 0⟩, tariff := tariff }
      let gone := s.queue.filter fun o => decide (o.endMin ≤ m.toNat)
      let kept := s.queue.filter fun o => decide (m.toNat < o.endMin)
      let items := (s.tariff.rates.toList.filter (·.waiting.isSome)).length
        + s.tariff.price.waiting.isSome.toNat
        + (s.tariff.schedule.toList.filter (·.waiting.isSome)).length
      exec (.setClock m) s = .next
        { (gone.foldl State.expireOne { set with queue := kept }).scan with
          sdo := .low, result := ⟨.ok, be 3 m.toNat ++ be 1 (m.toNat / 60 % 24) ++ be 1 set.bandInForce.val
            ++ be 1 items ++ be 1 gone.length⟩ })

/-- R168, R169, R156, R89: a VALID clock advances a second when 1,000 ms have passed; from second 59 the
second becomes 0 and the minute rises, the pending tariff values becoming live at a multiple of 60, the
ended orders expiring and the queue scanning; at 1,048,575 the minute holds. An advance that is not due
does not happen (notes/assumptions/3.md). -/
def Obligations.SecondsAndMinutesAdvance : Prop :=
  (∀ s : State, s.clock.valid = true → 1000 ≤ s.clock.millis →
    let live {α : Type} (i : TariffItem α) : TariffItem α := ⟨i.waiting.getD i.live, none⟩
    (s.clock.second < 59 → exec .siteSecondAdvance s =
      .next { s with clock := ⟨true, s.clock.minute, s.clock.second + 1, 0⟩ })
    ∧ (59 ≤ s.clock.second → 1048575 ≤ s.clock.minute → exec .siteSecondAdvance s =
      .next { s with clock := ⟨true, s.clock.minute, 0, 0⟩ })
    ∧ (59 ≤ s.clock.second → s.clock.minute < 1048575 →
      let m := s.clock.minute + 1
      let t : State := { s with
        clock := ⟨true, m, 0, 0⟩
        tariff := if m % 60 = 0 then
            ⟨s.tariff.rates.map live, live s.tariff.price, s.tariff.schedule.map live⟩ else s.tariff
        queue := s.queue.filter fun o => decide (m < o.endMin) }
      exec .siteSecondAdvance s =
        .next ((s.queue.filter fun o => decide (o.endMin ≤ m)).foldl State.expireOne t).scan))
  ∧ (∀ s : State, (s.clock.valid = false ∨ s.clock.millis < 1000) → exec .siteSecondAdvance s = .next s)

/-- R89: an order that expires records EXPIRED, WINDOW_ENDED and the minute with its feeder and raises
ORDER_EXPIRED; the orders that stay keep their places and fields, and nothing else changes. -/
def Obligations.EndedOrdersExpire : Prop :=
  ∀ s : State, s.clock.valid = true → (s.queue.map (·.feeder)).Nodup →
    let t := s.expireOrders
    t.queue = s.queue.filter (fun o => decide (s.clock.minute < o.endMin))
    ∧ (∀ o ∈ s.queue, o.endMin ≤ s.clock.minute → t.feeder o.feeder =
        { s.feeder o.feeder with last := some ⟨o.target, .expired, .windowEnded, s.clock.minute⟩ })
    ∧ (∀ ch, (∀ o ∈ s.queue, o.endMin ≤ s.clock.minute → o.feeder ≠ ch) → t.feeder ch = s.feeder ch)
    ∧ (∀ f : Flag, t.flags.getLsbD f.bit = (s.flags.getLsbD f.bit
        || (decide (f = .orderExpired) && (s.queue.any fun o => decide (o.endMin ≤ s.clock.minute))
            && s.pins.resetN && s.mask.getLsbD f.bit)))
    ∧ t = { s with queue := t.queue, feeders := t.feeders, flags := t.flags, snapshot := t.snapshot }

/-- R172, R173: SUPPLY_OK falling enters HOLDOVER and abandons a frame in progress; rising, it enters
RESUMING with the resume timer at 0; after 2,000 ms the part enters ACTIVE, raises SUPPLY_RESTORED and
scans. A line that has its level already does not change, and an expiry that is not due does not happen
(notes/assumptions/3.md, 7.md). -/
def Obligations.SupplyModesFollowTheLine : Prop :=
  ∀ s : State,
    (s.pins.supplyOk = true → exec .supplyOkFall s = .next { s with
        mode := .holdover, snapshot := none, pins := { s.pins with supplyOk := false } })
    ∧ (s.pins.supplyOk = false → exec .supplyOkRise s = .next { s with
        mode := .resuming 0, pins := { s.pins with supplyOk := true } })
    ∧ (s.pins.supplyOk = false → exec .supplyOkFall s = .next s)
    ∧ (s.pins.supplyOk = true → exec .supplyOkRise s = .next s)
    ∧ (∀ ms, s.mode = .resuming ms → 2000 ≤ ms → exec .resumeTimerExpiry s =
        .next (({ s with mode := .active } : State).raise .supplyRestored).scan)
    ∧ (∀ ms, s.mode = .resuming ms → ms < 2000 → exec .resumeTimerExpiry s = .next s)
    ∧ ((s.mode = .active ∨ s.mode = .holdover) → exec .resumeTimerExpiry s = .next s)

/-- R5, R65, R66, R71, R119, R175, R176, R177, R178, R182: the fall of RESET_N clears the flags and abandons a
frame; its rise and Restart give the port domain its reset values, end a transfer in hand FAILED with
reason RESET, its feeder re-derived, and keep the records of the retained domain. The rise stores the straps
sampled, and FEEDERS8 newly set flushes, opens and cancels channels 8 to 15; Restart keeps the straps. Then
every other active feeder is re-derived, and the queue scans (from the state `v`). MODEL'S READING: a line
that has its level already does not change (notes/assumptions/7.md); at the fall the mask, the result and
the staging buffer keep what they hold (notes/assumptions/17.md); the feeder of the transfer is watched at
the polarity sampled (notes/assumptions/23.md). MODEL'S CHOICE: where several feeders are made FAULT and
flushed, the order of their flushes is a free choice, at any value of `Config.pick` (R71;
notes/assumptions/27.md). -/
def Obligations.ResetsClearThePortAndKeepTheRecords : Prop :=
  (∀ s : State, s.pins.resetN = true → exec .resetNFall s = .next { s with
      flags := 0, snapshot := none, pins := { s.pins with resetN := false } })
  ∧ (∀ s : State, s.pins.resetN = false → exec .resetNFall s = .next s)
  ∧ (∀ (s : State) (x : Straps), s.pins.resetN = true → exec (.resetNRise x) s = .next s)
  ∧ (∀ (s : State) (x : Straps) (c : Instr),
      (c = .restart ∧ s.portOpen = true) ∨ (c = .resetNRise x ∧ s.pins.resetN = false) →
      ∃ t, exec c s = .next t ∧ KeepsOtherRecords
            { s with sdo := if c = .restart then .low else s.sdo, choices := t.choices } t
        ∧ t.result = ⟨.none, []⟩ ∧ t.mask = BitVec.allOnes 16 ∧ t.snapshot = none ∧ t.staging = none
        ∧ t.straps = (if c = .restart then s.straps else x)
        ∧ t.pins = { s.pins with resetN := true }
        ∧ (s.transfer.isSome = true → t.flags.getLsbD Flag.transferFailed.bit = true)
        ∧ (s.queue = [] → t.transfer = none ∧ ∀ h, s.transfer = some h → ∃ l, t.lastOutcome = some l
            ∧ l.feeder = h.feeder ∧ l.outcome = .failed ∧ l.reason = .reset ∧ l.phase = h.phase
            ∧ l.minute = s.now ∧ l.elapsed = h.elapsed))
  ∧ (∀ (s : State) (x : Straps) (c : Instr), s.Wired →
      (c = .restart ∧ s.portOpen = true) ∨ (c = .resetNRise x ∧ s.pins.resetN = false) →
      let held := s.transfer.map (·.feeder)
      -- the part before and after the sampling of the straps
      let w : State := { s with pins := { s.pins with resetN := true } }
      let n : State := { w with straps := if c = .restart then s.straps else x }
      let leaves (ch : Channel) : Bool := s.active ch && !n.active ch
      -- a feeder after the end of the transfer in hand
      let base (ch : Channel) : Feeder :=
        match s.transfer with
        | some h => if h.feeder = ch then
            { (w.rederive ch).feeder ch with last := some ⟨h.target, .failed, .reset, s.now⟩ }
          else s.feeder ch
        | none => s.feeder ch
      -- the other feeders that are made FAULT and flushed, and a free order of them
      let together := channels.filter fun ch => n.active ch && held != some ch
        && decide (((n.rederive ch).feeder ch).state = .fault)
        && (s.feeder ch).energisedSet.isSome && decide (0 < (s.feeder ch).interval)
      let order := if 2 ≤ together.length then arrange (Config.pick s.choices) together else together
      ∃ v : State, exec c s = .next (if c = .restart then { v.scan with sdo := .low } else v.scan)
        ∧ (∀ ch, leaves ch = true → v.feeder ch = { base ch with
            state := .dark, cause := .none, drive := ⟨false, false⟩, openCheck := none
            watch := ⟨none, none⟩
            interval := if (base ch).energisedSet.isSome then 0 else (base ch).interval
            last := match s.orderFor ch with
              | some o => some ⟨o.target, .cancelled, .channelInactive, s.now⟩
              | none => (base ch).last })
        ∧ (∀ ch, s.active ch = false → n.active ch = false → v.feeder ch = s.feeder ch)
        ∧ (∀ ch, n.active ch = true → held ≠ some ch → v.feeder ch = (n.rederive ch).feeder ch)
        ∧ (∀ ch, n.active ch = true → held = some ch →
            let f := base ch
            let timer (d : Side) : Option Nat :=
              if f.state ≠ .fault ∧ f.drive.get d ≠ n.fbClosed ch d then some 0 else none
            v.feeder ch = { f with watch := ⟨timer .A, timer .B⟩ })
        ∧ v.queue = s.queue.filter (fun o =>
            !leaves o.feeder && decide ((v.feeder o.feeder).state ≠ .fault))
        ∧ v.transfer = none
        ∧ (∀ h, s.transfer = some h → v.lastOutcome = some ⟨h.feeder, h.fromSide,
            h.fromSide.bind (s.boundSet h.feeder), h.target, s.boundSet h.feeder h.target, .failed, .reset,
            h.phase, h.releasing, s.now, h.elapsed⟩)
        ∧ (∀ f : Flag, v.flags.getLsbD f.bit = (decide (f = .transferFailed) && held.isSome
            || decide (f = .feederFault) && channels.any fun ch =>
                (held == some ch && decide ((base ch).state = .fault))
                  || (n.active ch && decide ((v.feeder ch).state = .fault))))
        ∧ v.choices = (if 2 ≤ together.length then s.choices + 1 else s.choices)
        ∧ (∀ i, v.set? i = (s.set? i).map fun r =>
            (channels.filter leaves ++ order).foldl
              (fun r ch => if (base ch).energisedSet = some i ∧ 0 < (base ch).interval then
                r.carry (base ch).account (base ch).interval else r) r))

/-- R65, R119: a re-derivation gives a feeder the state its drives and feedback give it, ends an open
check and cancels the disagreement timers; a feeder made FAULT is flushed, has both drives open, loses
its order as FAILED with FEEDER_FAULT, and raises FEEDER_FAULT. R71: of several feeders flushed together
every order is one that a free choice gives (notes/assumptions/27.md). -/
def Obligations.RederivationFollowsTheContacts : Prop :=
  (∀ l l' : List Channel, (∃ n, arrange n l = l') ↔ l'.Perm l)
  ∧ ∀ (s : State) (ch : Channel),
    let f := s.feeder ch
    let a := s.fbClosed ch .A
    let b := s.fbClosed ch .B
    let t := s.rederive ch
    let settled (st : FeederState) : Feeder :=
      { f with state := st, cause := .none, openCheck := none, watch := ⟨none, none⟩ }
    (f.drive = ⟨false, false⟩ → a = false → b = false → t = s.putFeeder ch (settled .dark))
    ∧ (f.drive = ⟨true, false⟩ → a = true → b = false → t = s.putFeeder ch (settled (.on .A)))
    ∧ (f.drive = ⟨false, true⟩ → a = false → b = true → t = s.putFeeder ch (settled (.on .B)))
    ∧ ((f.drive.a ≠ a ∨ f.drive.b ≠ b ∨ (a = true ∧ b = true)) →
        t.feeder ch = { f with
          state := .fault, cause := if a || b then .unexpectedClose else .unexpectedOpen
          drive := ⟨false, false⟩, openCheck := none, watch := ⟨none, none⟩
          interval := (t.feeder ch).interval, last := (t.feeder ch).last }
        ∧ (t.feeder ch).interval = (s.flush ch |>.feeder ch).interval
        ∧ t.sets = (s.flush ch).sets
        ∧ t.queue = s.queue.filter (fun o => o.feeder != ch)
        ∧ (∀ o, s.orderFor ch = some o →
            (t.feeder ch).last = some ⟨o.target, .failed, .feederFault, s.now⟩)
        ∧ (s.orderFor ch = none → (t.feeder ch).last = f.last)
        ∧ (∀ g : Flag, t.flags.getLsbD g.bit = (s.flags.getLsbD g.bit
            || (decide (g = .feederFault) && s.pins.resetN && s.mask.getLsbD g.bit)))
        ∧ (∀ c, c ≠ ch → t.feeder c = s.feeder c))

/-- R179, R67, R123, R138, R145, R154, R120, R182: cold start gives every record its value after cold
start, samples the straps and follows SUPPLY_OK. The queue of commands and the count of free choices are
the model's own and are kept. -/
def Obligations.ColdStartGivesEveryRecordItsFirstValue : Prop :=
  ∀ (s : State) (x : Straps) (pins : Pins), ∃ t, exec (.coldStart x pins) s = .next t
    ∧ t.uptime = 0 ∧ t.clock = ⟨false, 0, 0, 0⟩
    ∧ t.mode = (if pins.supplyOk then .resuming 0 else .holdover)
    ∧ t.straps = x ∧ t.pins = pins
    ∧ (∀ i, t.set? i = none)
    ∧ (∀ c : CurveNo, (t.curves[c]).complete = false ∧ ∀ k : Fin 11, (t.curves[c]).points[k] = 0)
    ∧ (∀ ch, t.feeder ch = ⟨⟨none, none⟩, 0, 10, 5, .dark, .none, 0, 0, 0, none, none, ⟨false, false⟩,
        ⟨none, none⟩⟩)
    ∧ t.queue = [] ∧ t.params = ⟨400, 400, 30⟩ ∧ t.lastOutcome = none ∧ t.transfer = none
    ∧ (∀ p, t.position p = ⟨.auto, 0, none⟩ ∧ (t.position p).permitOn = false)
    ∧ (∀ n, t.supplier n = ⟨.unregistered, 0, 0⟩)
    ∧ (∃ r, t.account? 0 = some r ∧ r.code = 0 ∧ r.label = [] ∧ r.periodStart = 0 ∧ r.nextStatement = 1
        ∧ r.hold = false ∧ r.saturated = false ∧ r.statement = none ∧ r.energyAccrual = 0
        ∧ r.fuelShare = 0 ∧ r.fuelAccrual = 0 ∧ ∀ b : Band, r.band[b] = 0)
    ∧ (∀ a : AccountSlot, a ≠ 0 → t.account? a = none)
    ∧ (∀ b : Band, t.tariff.rates[b] = ⟨0, none⟩) ∧ t.tariff.price = ⟨0, none⟩
    ∧ (∀ h : Hour, t.tariff.schedule[h] = ⟨0, none⟩)
    ∧ t.result = ⟨.none, []⟩ ∧ t.flags = 0 ∧ t.mask = BitVec.allOnes 16 ∧ t.snapshot = none
    ∧ t.staging = none ∧ t.sdo = .released ∧ t.pending = s.pending ∧ t.choices = s.choices

/-! ## Sets (chapters 1, 2 and 4) -/

/-- R11: with every check passed, Hire Set fills the lowest free slot with the terms given, the values at
hire of R7, R9 and R10 and the tank clamped to capacity, and raises RESERVE and DRY if they are present;
otherwise the checks refuse it in their order. -/
def Obligations.HireSetFillsTheLowestFreeSlot : Prop :=
  ∀ (s : State) (unit : BitVec 32) (rating : BitVec 16) (capacity : BitVec 32) (curve : Byte)
    (minHire : BitVec 16) (dayRate tank : BitVec 32), s.portOpen = true →
    let c := Instr.hireSet unit rating capacity curve minHire dayRate tank
    let refused := s.refused
    let inRange := (10 ≤ rating.toNat ∧ rating.toNat ≤ 2000)
      ∧ (50000 ≤ capacity.toNat ∧ capacity.toNat ≤ 4000000) ∧ curve.toNat ≤ 5
      ∧ minHire.toNat ≤ 43200 ∧ dayRate.toNat ≤ 1000000
    let taken := ∃ j q, s.set? j = some q ∧ q.unit = unit
    (¬ inRange → exec c s = refused .range)
    ∧ (inRange → s.clock.valid = false → exec c s = refused .noClock)
    ∧ (inRange → s.clock.valid = true → taken → exec c s = refused .exists)
    ∧ (inRange → s.clock.valid = true → ¬ taken → (∀ j, (s.set? j).isSome = true) →
        exec c s = refused .full)
    ∧ (∀ (i : SetSlot) (k : CurveNo), inRange → s.clock.valid = true → ¬ taken → s.set? i = none →
        (∀ j, j < i → (s.set? j).isSome = true) → curve.toNat = k.val →
        let stored := min tank.toNat capacity.toNat
        let low := decide (stored ≤ capacity.toNat / 10)
        let empty := decide (stored = 0)
        let r : SetRec :=
          { unit := unit, rating := rating.toNat, capacity := capacity.toNat, minHire := minHire.toNat
            dayRate := dayRate.toNat, hireStart := s.clock.minute, curve := k
            reserve := capacity.toNat / 10, loadLimit := 1000, idle := 0, relief := none, window := 30
            running := false, timer := 0, expiring := false, tank := stored, remainder := 0, rate := 0
            load := 0, runtime := 65535, conds := ⟨low, empty, false, false⟩, carried := []
            overflow := 0, runSeconds := 0, burned := 0, credited := 0, overfill := 0, dryCount := 0 }
        exec c s = .next
          { ((({ s with sets := s.sets.set i (some r) } : State).raiseIf low .reserve).raiseIf empty .dry) with
            sdo := .low, result := ⟨if capacity.toNat < tank.toNat then .clamped else .ok,
              be 1 (i.val + 1) ++ be 3 stored⟩ })

/-- R14, R15: Report Run STARTED of a STOPPED set and STOPPED of a RUNNING one are taken, any other is
refused with STATE. STARTED starts the timer from 0; STOPPED evaluates the whole seconds of the timer, if
there are any, and then stops the set; the queue scans once. -/
def Obligations.ReportRunStartsAndStopsASet : Prop :=
  ∀ (s : State) (slot report : Byte) (i : SetSlot) (r : SetRec), s.portOpen = true →
    slot.toNat = i.val + 1 → s.set? i = some r →
    ((report.toNat = 1 ∧ r.running = true ∨ report.toNat = 0 ∧ r.running = false) →
      exec (.reportRun slot report) s = .next { s with sdo := .low, result := ⟨.state, []⟩ })
    ∧ (2 ≤ report.toNat → exec (.reportRun slot report) s = .next { s with sdo := .low, result := ⟨.range, []⟩ })
    ∧ (report.toNat = 1 → r.running = false → exec (.reportRun slot report) s = .next
        { ({ s with
              sets := s.sets.set i (some { r with running := true, timer := 0, expiring := false }) }
            : State).scan with
          sdo := .low, result := ⟨.ok, be 1 (i.val + 1) ++ be 1 1 ++ be 1 0 ++ be 2 0⟩ })
    ∧ (report.toNat = 0 → r.running = true →
        let secs := r.timer / 1000
        let e : State × Nat := if secs = 0 then (s, 0) else s.evaluate i secs
        exec (.reportRun slot report) s = .next
        { (e.1.updSet i fun q => { q with running := false, timer := 0, expiring := false }).scan with
          sdo := .low, result := ⟨.ok, be 1 (i.val + 1) ++ be 1 0 ++ be 1 secs ++ be 2 e.2⟩ })

/-- R16, R17, R18: Amend Set and Dip Set write the set's record with the values clamped, re-derive the
conditions named and raise the flag of each entry; neither generates relief. -/
def Obligations.AmendAndDipWriteTheRecord : Prop :=
  (∀ (s : State) (slot curve idle relief window : Byte) (reserve : BitVec 32) (limit : BitVec 16)
      (i : SetSlot) (k : CurveNo) (a : AccountSlot) (rel : Option SetSlot) (r : SetRec),
    s.portOpen = true → slot.toNat = i.val + 1 → s.set? i = some r → curve.toNat = k.val →
    idle.toNat = a.val → (s.account? a).isSome = true → relief.toNat = slotCode rel → rel ≠ some i →
    (∀ j, rel = some j → (s.set? j).isSome = true) →
    let reserve' := min reserve.toNat r.capacity
    let limit' := max 500 (min 1100 limit.toNat)
    let window' := max 2 (min 240 window.toNat)
    let low := decide (r.tank ≤ reserve')
    let heavy := decide (limit' < r.load)
    exec (.amendSet slot curve reserve limit idle relief window) s = .next
      { ((({ s with sets := s.sets.set i (some { r with
            curve := k, reserve := reserve', loadLimit := limit', idle := a, relief := rel
            window := window', conds := { r.conds with reserve := low, overload := heavy } }) } : State).raiseIf
          (low && !r.conds.reserve) .reserve).raiseIf (heavy && !r.conds.overload) .overload) with
        sdo := .low, result := ⟨if reserve' = reserve.toNat ∧ limit' = limit.toNat ∧ window' = window.toNat then .ok
            else .clamped,
          be 1 (i.val + 1) ++ be 1 k.val ++ be 4 reserve' ++ be 2 limit' ++ be 1 a.val
            ++ be 1 (slotCode rel) ++ be 1 window'⟩ })
  ∧ (∀ (s : State) (slot : Byte) (reading : BitVec 32) (i : SetSlot) (r : SetRec),
    s.portOpen = true → slot.toNat = i.val + 1 → s.set? i = some r →
    let tank := min reading.toNat r.capacity
    let runtime := if r.rate = 0 then 65535 else min (tank * 60 / r.rate) 65534
    let low := decide (tank ≤ r.reserve)
    let empty := decide (tank = 0)
    exec (.dipSet slot reading) s = .next
      { ((({ s with sets := s.sets.set i (some { r with
            tank := tank, runtime := runtime, conds := { r.conds with reserve := low, dry := empty } }) }
            : State).raiseIf (low && !r.conds.reserve) .reserve).raiseIf (empty && !r.conds.dry) .dry) with
        sdo := .low, result := ⟨if r.capacity < reading.toNat then .clamped else .ok,
          be 1 (i.val + 1) ++ be 3 tank ++ be 2 runtime⟩ })

/-- R21, R22, R23: Off-Hire Set is refused in the order of its checks; taken, its result is the statement,
every relief field that names the slot becomes none, and the slot becomes free. -/
def Obligations.OffHireSetBuildsTheStatementAndFreesTheSlot : Prop :=
  ∀ (s : State) (slot : Byte) (i : SetSlot) (r : SetRec), s.portOpen = true →
    slot.toNat = i.val + 1 → s.set? i = some r →
    let refused := s.refused
    let named := (∃ ch d, (s.feeder ch).bound.get d = some i)
      ∨ ∃ p t, (s.position p).ticket = some t ∧ t.set = i
    let minutes := s.clock.minute - r.hireStart
    let billable := max minutes r.minHire
    (s.clock.valid = false → exec (.offHireSet slot) s = refused .noClock)
    ∧ (s.clock.valid = true → r.running = true → exec (.offHireSet slot) s = refused .state)
    ∧ (s.clock.valid = true → r.running = false → named → exec (.offHireSet slot) s = refused .inUse)
    ∧ (s.clock.valid = true → r.running = false → ¬ named → exec (.offHireSet slot) s = .next
        { s with
          sets := (s.sets.map (Option.map fun q =>
            { q with relief := if q.relief = some i then none else q.relief })).set i none
          sdo := .low, result := ⟨.ok,
            be 1 (i.val + 1) ++ be 4 r.unit.toNat ++ be 3 r.hireStart ++ be 3 s.clock.minute
              ++ be 3 minutes ++ be 3 billable ++ be 4 ((billable + 1439) / 1440 * r.dayRate)
              ++ be 4 r.runSeconds ++ be 4 r.burned ++ be 4 r.credited ++ be 4 r.overfill
              ++ be 3 r.tank ++ be 2 r.dryCount⟩ })

/-- R31, R32: the interval of a running set expires when its timer would reach 60,000 ms: the set is
evaluated for 60 s, the timer starts again from 0 and the queue scans. MODEL'S CHOICE: the bit `expiring`
stands for that moment (notes/assumptions/20.md; IdleStepTakesAnExpiryOrAMillisecond ties it to the timer),
and an expiry that is not due does not happen (notes/assumptions/3.md). -/
def Obligations.IntervalExpiryEvaluatesASet : Prop :=
  (∀ (s : State) (i : SetSlot) (r : SetRec), s.set? i = some r → r.running = true → r.expiring = true →
    exec (.intervalExpiry i) s = .next
      ((s.evaluate i 60).1.updSet i fun q => { q with timer := 0, expiring := false }).scan)
  ∧ (∀ (s : State) (i : SetSlot), (∀ r, s.set? i = some r → r.running = false ∨ r.expiring = false) →
      exec (.intervalExpiry i) s = .next s)

/-- R36 to R39, R41: the Load, Rate, Burn, Tank and Runtime stages of an evaluation over `secs` seconds,
from the contribution list and the curve as they stand. Every other field of the record is as it was but
for the carried energy, which is emptied (R34, R72); every other set is as it was. -/
def Obligations.EvaluationWritesTheSetRecord : Prop :=
  ∀ (s : State) (i : SetSlot) (r : SetRec) (secs : Nat), s.set? i = some r → 1 ≤ secs → secs ≤ 60 →
    let energy := min 4294967295 ((s.contributions i r).map (·.2)).sum
    let load := energy * 3600 / (secs * r.rating)
    let fi := min load 1000
    let k := min (fi / 100) 9
    let c := (s.curves[r.curve]).points.toList
    let rate := if (s.curves[r.curve]).complete then
        c.getD k 0 + (c.getD (k + 1) 0 - c.getD k 0) * (fi - 100 * k) / 100 else 0
    let a := r.remainder + rate * secs
    let burn := a / 3600
    let tank := r.tank - burn
    (s.evaluate i secs).2 = burn
    ∧ (s.evaluate i secs).1.set? i = some { r with
        carried := [], overflow := 0, load := min load 9999, rate := rate, remainder := a % 3600
        runSeconds := min 4294967295 (r.runSeconds + secs), burned := min 4294967295 (r.burned + burn)
        tank := tank, dryCount := min 65535 (r.dryCount + if tank = 0 then 1 else 0)
        runtime := if rate = 0 then 65535 else min (tank * 60 / rate) 65534
        conds := ⟨decide (tank ≤ r.reserve), decide (tank = 0), decide (r.loadLimit < load),
          !(s.curves[r.curve]).complete⟩ }
    ∧ ∀ j, j ≠ i → (s.evaluate i secs).1.set? j = s.set? j

/-- R34, R35: the contribution list holds each account once, with the carried entry, the interval energy
of the active feeders energised from the set and, for the idle account, the carried overflow added up
under it, saturating; the evaluation empties those feeders and writes their last demand, and leaves every
other feeder as it was. -/
def Obligations.EvaluationCollectsEnergyByAccount : Prop :=
  ∀ (s : State) (i : SetSlot) (r : SetRec) (secs : Nat), s.set? i = some r → r.InRange →
    (∀ ch, (s.feeder ch).interval ≤ 16777215) → 1 ≤ secs →
    let supplied (ch : Channel) : Bool := s.active ch && (s.feeder ch).energisedSet == some i
    let l := s.contributions i r
    (l.map (·.1)).Nodup
    ∧ (∀ a : AccountSlot, ((l.filter fun p => p.1 == a).map (·.2)).sum =
        min 4294967295 (((r.carried.filter fun p => p.1 == a).map (·.2)).sum
          + ((channels.filter fun ch => supplied ch && (s.feeder ch).account == a).map
              fun ch => (s.feeder ch).interval).sum
          + if r.idle = a then r.overflow else 0))
    ∧ (∀ p ∈ l, 1 ≤ p.2)
    ∧ ∀ ch : Channel, (s.evaluate i secs).1.feeder ch =
        if supplied ch then { s.feeder ch with
          demand := min 4294967295 ((s.feeder ch).interval * 3600 / secs), interval := 0 }
        else s.feeder ch

/-- R20, R36, R37, R39, R80, R92, R147, R32: each account's fuel share and fuel charge accrual rise by its
share and by the share times the live fuel price, saturating with the marker set; every other field of it,
and every record the evaluation does not write, is as it was. A RESERVE entry of the evaluation, and only
that, runs relief generation with the set's relief set and window; the entries into RESERVE, DRY, OVERLOAD
and UNCOSTED raise their flags, and so does an addition to an account that is cut short. MODEL'S READING: a
raise sets the re-raise marker of a snapshot in progress only where the flag's mask bit is 1 and RESET_N is
high (R187; notes/assumptions/10.md). -/
def Obligations.EvaluationChargesEachShare : Prop :=
  ∀ (s : State) (i : SetSlot) (r : SetRec) (secs : Nat), s.set? i = some r → r.InRange → 1 ≤ secs →
    let t := (s.evaluate i secs).1
    let shares := sharesOf (s.evaluate i secs).2 (s.contributions i r) r.idle
    let share (a : AccountSlot) : Nat := (shares.lookup a).getD 0
    let cents (a : AccountSlot) : Nat := share a * s.tariff.price.live
    (∀ (a : AccountSlot) (x : Account), s.account? a = some x → x.fuelShare ≤ 4294967295 →
        x.fuelAccrual ≤ 281474976710655 →
        t.account? a = some { x with
          fuelShare := min 4294967295 (x.fuelShare + share a)
          fuelAccrual := min 281474976710655 (x.fuelAccrual + cents a)
          saturated := x.saturated || decide (4294967295 < x.fuelShare + share a)
            || decide (281474976710655 < x.fuelAccrual + cents a) })
    ∧ (∀ a : AccountSlot, s.account? a = none → t.account? a = none)
    ∧ t = { s with sets := t.sets, feeders := t.feeders, queue := t.queue, accounts := t.accounts
                   flags := t.flags, snapshot := t.snapshot }
    ∧ ∀ q, t.set? i = some q →
      let relieved := if r.conds.reserve = false ∧ q.conds.reserve = true then
        s.generateRelief i r.relief r.window else s
      let raised (f : Flag) : Prop := s.pins.resetN = true ∧ s.mask.getLsbD f.bit = true ∧ match f with
        | .reserve => r.conds.reserve = false ∧ q.conds.reserve = true
        | .dry => r.conds.dry = false ∧ q.conds.dry = true
        | .overload => r.conds.overload = false ∧ q.conds.overload = true
        | .uncosted => r.conds.uncosted = false ∧ q.conds.uncosted = true
        | .saturated => ∃ a x, s.account? a = some x
            ∧ ((share a ≠ 0 ∧ 4294967295 < x.fuelShare + share a)
              ∨ (cents a ≠ 0 ∧ 281474976710655 < x.fuelAccrual + cents a))
        | _ => False
      t.queue = relieved.queue
      ∧ (∀ f : Flag, t.flags.getLsbD f.bit = true ↔ relieved.flags.getLsbD f.bit = true ∨ raised f)
      ∧ (relieved.snapshot = none → t.snapshot = none)
      ∧ ∀ p, relieved.snapshot = some p → ∃ p', t.snapshot = some p' ∧ p'.taken = p.taken
        ∧ ∀ f : Flag, p'.reRaised.getLsbD f.bit = true ↔ p.reRaised.getLsbD f.bit = true ∨ raised f

/-- R77, R78, R79: the shares of a burn among entries of distinct accounts sum to the burn. With nothing
collected the idle account has it all; otherwise each entry has its floor share, or one millilitre more,
and an entry with one more has a remainder above 0, larger than that of one without, or equal and with a
lower slot. The order of the entries has no part in it. -/
def Obligations.SharesSumToTheBurn : Prop :=
  ∀ (burn : Nat) (l : List (AccountSlot × Nat)) (idle : AccountSlot), (l.map (·.1)).Nodup →
    (∀ p ∈ l, 1 ≤ p.2) →
    let d := (l.map (·.2)).sum
    let shares := sharesOf burn l idle
    (shares.map (·.2)).sum = burn
    ∧ (l = [] → shares = [(idle, burn)])
    ∧ (l ≠ [] → shares.map (·.1) = l.map (·.1)
      ∧ (∀ p ∈ l, shares.lookup p.1 = some (burn * p.2 / d) ∨ shares.lookup p.1 = some (burn * p.2 / d + 1))
      ∧ ∀ p ∈ l, ∀ q ∈ l, shares.lookup p.1 = some (burn * p.2 / d + 1) →
          shares.lookup q.1 = some (burn * q.2 / d) →
          burn * q.2 % d < burn * p.2 % d ∨ (burn * q.2 % d = burn * p.2 % d ∧ p.1 < q.1))
    ∧ (∀ p ∈ l, shares.lookup p.1 = some (burn * p.2 / d + 1) → 0 < burn * p.2 % d)
    ∧ ∀ l' : List (AccountSlot × Nat), l.Perm l' → ∀ a, (sharesOf burn l' idle).lookup a = shares.lookup a

/-- R43, R44, R105: the committed load of a set is the sum of the last demands of the active feeders
energised from it and of the transfer in hand towards it, the headroom its permitted output less that;
at a take the feeder's demand leaves its old set and joins the target set. -/
def Obligations.CommittedLoadFollowsTheTransfer : Prop :=
  (∀ (s : State) (i : SetSlot) (r : SetRec),
    s.committed i = ((channels.filter fun ch => s.active ch && (s.feeder ch).energisedSet == some i).map
        fun ch => (s.feeder ch).demand).sum
      + ((s.transfer.filter fun t => (s.feeder t.feeder).bound.get t.target == some i).map
          fun t => (s.feeder t.feeder).demand).getD 0
    ∧ s.headroom i r = (r.rating : Int) * r.loadLimit - s.committed i)
  ∧ (∀ (s : State) (ch : Channel) (d : Side) (i : SetSlot), s.transfer = none →
      s.active ch = true →
      ((s.feeder ch).state = .dark ∨ (s.feeder ch).state = .on d.other) →
      s.boundSet ch d = some i → (s.feeder ch).energisedSet ≠ some i →
      (s.take ch d).committed i = s.committed i + (s.feeder ch).demand
      ∧ ∀ j, (s.feeder ch).energisedSet = some j →
          (s.take ch d).committed j + (s.feeder ch).demand = s.committed j)

/-! ## Curves (chapter 2.1) -/

/-- R26, R27, R28: Begin Curve opens the staging buffer for the curve and reports what it discards. Load
Curve Point brings the value down to 250,000 and then up to the point before, stores it, and at the
eleventh point makes the staged points live, sets the marker and closes the buffer; with the buffer
closed it is refused with STATE. -/
def Obligations.CurvesAreStagedAndReplacedWhole : Prop :=
  (∀ (s : State) (b : Byte) (c : CurveNo), s.portOpen = true → b.toNat = c.val →
    exec (.beginCurve b) s = .next { s with
      staging := some ⟨c, []⟩
      sdo := .low, result := ⟨.ok, be 1 c.val ++ (match s.staging with
        | some ⟨k, p :: rest⟩ => be 1 k.val ++ be 1 (rest.length + 1)
        | _ => [0xFF, 0xFF])⟩ })
  ∧ (∀ (s : State) (v : BitVec 32), s.portOpen = true → s.staging = none →
      exec (.loadCurvePoint v) s = .next { s with sdo := .low, result := ⟨.state, []⟩ })
  ∧ (∀ (s : State) (v : BitVec 32) (g : Staging), s.portOpen = true → s.staging = some g →
      let stored := max (min v.toNat 250000) (g.points.getLast?.getD 0)
      let status : Status := if stored = v.toNat then .ok else .clamped
      (g.points.length < 10 → exec (.loadCurvePoint v) s = .next { s with
        staging := some ⟨g.curve, g.points ++ [stored]⟩
        sdo := .low, result := ⟨status, be 1 g.curve.val ++ be 1 g.points.length ++ be 3 stored ++ be 1 0⟩ })
      ∧ (g.points.length = 10 → ∃ live : Curve, live.complete = true
        ∧ live.points.toList = g.points ++ [stored]
        ∧ exec (.loadCurvePoint v) s = .next { s with
            curves := s.curves.set g.curve live, staging := none
            sdo := .low, result := ⟨status, be 1 g.curve.val ++ be 1 10 ++ be 3 stored ++ be 1 1⟩ }))

/-! ## Feeders (chapter 3) -/

/-- R53, R70: a flush moves the interval energy of a feeder ON a hired set, if it is above 0, into that
set's carried list under the feeder's account, in one of three ways: it merges into the account's entry in
its place, or is appended while the list holds fewer than 4 entries, or joins the carried overflow;
otherwise a flush changes nothing. R56: Assign Feeder Account flushes and then names the account. -/
def Obligations.FlushFillsTheCarriedListAndAssignNamesTheAccount : Prop :=
  (∀ (s : State) (ch : Channel) (i : SetSlot) (r : SetRec), (s.feeder ch).energisedSet = some i →
    s.set? i = some r → 0 < (s.feeder ch).interval →
    let e := (s.feeder ch).interval
    let a := (s.feeder ch).account
    let moved (r' : SetRec) : State := { s with
      sets := s.sets.set i (some r')
      feeders := s.feeders.set ch { s.feeder ch with interval := 0 } }
    (a ∈ r.carried.map (·.1) → s.flush ch = moved { r with
      carried := r.carried.map fun p => if p.1 = a then (a, min 4294967295 (p.2 + e)) else p })
    ∧ (a ∉ r.carried.map (·.1) → r.carried.length < 4 →
        s.flush ch = moved { r with carried := r.carried ++ [(a, e)] })
    ∧ (a ∉ r.carried.map (·.1) → 4 ≤ r.carried.length →
        s.flush ch = moved { r with overflow := min 4294967295 (r.overflow + e) }))
  ∧ (∀ (s : State) (ch : Channel),
      (s.feeder ch).energisedSet = none ∨ (s.feeder ch).interval = 0 → s.flush ch = s)
  ∧ (∀ (s : State) (cb ab : Byte) (ch : Channel) (a : AccountSlot), s.portOpen = true →
      cb.toNat = ch.val → ab.toNat = a.val →
      (s.active ch = false ∨ s.account? a = none →
        exec (.assignFeederAccount cb ab) s = .next { s with sdo := .low, result := ⟨.noRecord, []⟩ })
      ∧ (s.active ch = true → (s.account? a).isSome = true →
        exec (.assignFeederAccount cb ab) s = .next { s.flush ch with
          feeders := (s.flush ch).feeders.set ch { (s.flush ch).feeder ch with account := a }
          sdo := .low, result := ⟨.ok, be 1 ch.val ++ be 1 a.val ++
            (match (s.feeder ch).energisedSet with
             | some i => if 0 < (s.feeder ch).interval then
                 be 3 (s.feeder ch).interval ++ be 1 (i.val + 1) else be 4 0
             | none => be 4 0)⟩ }))

/-- R55: Bind Side makes its checks in order and then writes the side's set, or none, and nothing else. -/
def Obligations.BindSideChecksInOrderAndBindsOneSide : Prop :=
  ∀ (s : State) (cb db ib : Byte) (ch : Channel), s.portOpen = true → cb.toNat = ch.val →
    let f := s.feeder ch
    let c := Instr.bindSide cb db ib
    let refused := s.refused
    (2 ≤ db.toNat ∨ 25 ≤ ib.toNat → exec c s = refused .range)
    ∧ ∀ (d : Side) (x : Option SetSlot), db.toNat = sideCode (some d) → ib.toNat = slotCode x →
      let hired := ∀ i, x = some i → (s.set? i).isSome = true
      let ordered := ∃ o ∈ s.queue, o.feeder = ch ∧ o.target = d
      (s.active ch = false → exec c s = refused .noRecord)
      ∧ (s.active ch = true → ¬ hired → exec c s = refused .noRecord)
      ∧ (s.active ch = true → hired → f.state = .on d → exec c s = refused .inUse)
      ∧ (s.active ch = true → hired → f.state = .transfer → exec c s = refused .inUse)
      ∧ (s.active ch = true → hired → f.state ≠ .on d → f.state ≠ .transfer → ordered →
          exec c s = refused .inUse)
      ∧ (s.active ch = true → hired → f.state ≠ .on d → f.state ≠ .transfer → ¬ ordered →
          exec c s = .next { s with
            feeders := s.feeders.set ch { f with bound := f.bound.set d x }
            sdo := .low, result := ⟨.ok, be 1 ch.val ++ be 1 (sideCode (some d)) ++ be 1 (slotCode x)⟩ })

/-- R57, R120: Set Feeder Parameters takes a weight of 1, 10 or 100 and clamps the dead time to 2 to 30;
Set Transfer Parameters clamps its three values; both complete CLAMPED if a value was clamped, report the
values stored and change nothing else. A weight that is none of the three is refused with RANGE on an
inactive channel too: MODEL'S READING of a rule that does not number its checks (notes/assumptions/12.md). -/
def Obligations.ParametersAreClampedAndStored : Prop :=
  (∀ (s : State) (cb wb db : Byte) (ch : Channel), s.portOpen = true → cb.toNat = ch.val →
    let weighs := wb.toNat = 1 ∨ wb.toNat = 10 ∨ wb.toNat = 100
    let dead := max 2 (min 30 db.toNat)
    (¬ weighs → exec (.setFeederParameters cb wb db) s = .next { s with sdo := .low, result := ⟨.range, []⟩ })
    ∧ (weighs → s.active ch = false →
        exec (.setFeederParameters cb wb db) s = .next { s with sdo := .low, result := ⟨.noRecord, []⟩ })
    ∧ (weighs → s.active ch = true → exec (.setFeederParameters cb wb db) s = .next { s with
        feeders := s.feeders.set ch { s.feeder ch with weight := wb.toNat, deadTime := dead }
        sdo := .low, result := ⟨if dead = db.toNat then .ok else .clamped,
          be 1 ch.val ++ be 1 wb.toNat ++ be 1 dead⟩ }))
  ∧ (∀ (s : State) (o c m : BitVec 16), s.portOpen = true →
      let p : Params :=
        ⟨max 50 (min 2000 o.toNat), max 50 (min 2000 c.toNat), min 600 m.toNat⟩
      exec (.setTransferParameters o c m) s = .next { s with
        params := p
        sdo := .low, result := ⟨if p = ⟨o.toNat, c.toNat, m.toNat⟩ then .ok else .clamped,
          be 2 p.openTimeout ++ be 2 p.closeTimeout ++ be 2 p.minRuntime⟩ })

/-- R58, R115: Open Feeder leaves a FAULT feeder as it is; it flushes and opens an ON or DARK feeder, takes
its order out of the queue as CANCELLED, and starts its open check if a feedback reads closed; it ends the
transfer of a TRANSFER feeder CANCELLED and the queue scans. R60: Reconcile Feeder makes a FAULT feeder
whose feedbacks both read open DARK, with a scan, and is refused with STATE otherwise. MODEL'S CHOICE: bits
2 to 7 of its feedback byte, which R193 gives no meaning, read 0 (notes/assumptions/30.md). -/
def Obligations.OpenFeederAndReconcileFeeder : Prop :=
  ∀ (s : State) (cb : Byte) (ch : Channel), s.portOpen = true → cb.toNat = ch.val → s.active ch = true →
    let f := s.feeder ch
    let proven := !s.fbClosed ch .A && !s.fbClosed ch .B
    let check := if proven then none else some (f.openCheck.getD s.params.openTimeout)
    (f.state = .fault → exec (.openFeeder cb) s = .next { s with
        sdo := .low, result := ⟨.ok, be 1 ch.val ++ be 1 4 ++ be 1 f.openCheck.isSome.toNat ++ be 4 0⟩ })
    ∧ (f.state ≠ .fault → f.state ≠ .transfer → (s.transfer.map (·.feeder)) ≠ some ch →
      let u := s.flush ch
      exec (.openFeeder cb) s = .next { u with
        feeders := u.feeders.set ch { u.feeder ch with
          state := .dark, cause := .none, drive := ⟨false, false⟩, openCheck := check
          watch := ⟨none, none⟩
          last := match s.orderFor ch with
            | some o => some ⟨o.target, .cancelled, .openedByCommand, s.now⟩
            | none => f.last }
        queue := s.queue.filter fun o => o.feeder != ch
        sdo := .low, result := ⟨.ok, be 1 ch.val ++ be 1 0 ++ be 1 check.isSome.toNat ++
          (match f.energisedSet with
           | some i => if 0 < f.interval then be 3 f.interval ++ be 1 (i.val + 1) else be 4 0
           | none => be 4 0)⟩ })
    ∧ (∀ h, s.Wired → s.transfer = some h → h.feeder = ch →
      let u : State := { s with
        feeders := s.feeders.set ch { f with
          state := .dark, cause := .none, drive := ⟨false, false⟩, openCheck := check
          watch := ⟨none, none⟩, last := some ⟨h.target, .cancelled, .openedByCommand, s.now⟩ }
        transfer := none
        lastOutcome := some ⟨ch, h.fromSide, h.fromSide.bind fun d => f.bound.get d, h.target,
          f.bound.get h.target, .cancelled, .openedByCommand, h.phase, h.releasing, s.now, h.elapsed⟩ }
      exec (.openFeeder cb) s = .next { u.scan with
        sdo := .low, result := ⟨.ok, be 1 ch.val ++ be 1 0 ++ be 1 check.isSome.toNat ++ be 4 0⟩ })
    ∧ (f.state = .fault → f.drive = ⟨false, false⟩ → proven = true →
      exec (.reconcileFeeder cb) s = .next
        { ({ s with
              feeders := s.feeders.set ch { f with state := .dark, cause := .none, watch := ⟨none, none⟩ } }
            : State).scan with
          sdo := .low, result := ⟨.ok, be 1 ch.val ++ be 1 0 ++ be 1 0⟩ })
    ∧ (f.state ≠ .fault ∨ proven = false → exec (.reconcileFeeder cb) s = .next { s with
        sdo := .low, result := ⟨.state, be 1 ch.val ++ be 1 f.state.code
          ++ be 1 ((s.fbClosed ch .A).toNat + 2 * (s.fbClosed ch .B).toNat)⟩ })

/-- R50, R51, R147, R157: a pulse on an active channel adds the weight to the interval and the lifetime
energy and bills it to the account the feeder names, in the band in force at its live rate, saturating; a
pulse on an inactive channel changes nothing. MODEL'S READING: this holds too of a pulse that comes with the
channel's strap deactivation and is taken after it, against R52's flush row (notes/assumptions/28.md). -/
def Obligations.EnergyPulseBillsOneAccount : Prop :=
  (∀ (s : State) (ch : Channel) (x : Account), s.active ch = true →
    s.account? (s.feeder ch).account = some x →
    let f := s.feeder ch
    let hour := s.clock.minute / 60 % 24
    let b : Band := if s.clock.valid then (s.tariff.schedule.toList.getD hour ⟨0, none⟩).live else 0
    let cents := f.weight * (s.tariff.rates[b]).live
    let cut := (decide (4294967295 < x.band[b] + f.weight) && decide (f.weight ≠ 0))
      || (decide (281474976710655 < x.energyAccrual + cents) && decide (cents ≠ 0))
    exec (.energyPulse ch) s = .next (({ s with
      feeders := s.feeders.set ch { f with
        interval := min 16777215 (f.interval + f.weight)
        lifetime := min 4294967295 (f.lifetime + f.weight) }
      accounts := s.accounts.set f.account (some { x with
        band := x.band.set b (min 4294967295 (x.band[b] + f.weight))
        energyAccrual := min 281474976710655 (x.energyAccrual + cents)
        saturated := x.saturated || cut }) } : State).raiseIf cut .saturated))
  ∧ (∀ (s : State) (ch : Channel), s.active ch = false → exec (.energyPulse ch) s = .next s)

/-- R45, R49, R59, R62, R106 to R112, R119: what a change of a feedback line does. Outside a transfer it
starts or cancels the disagreement timers, or ends an open check with a scan; in a transfer that RESET_N
does not hold it may end the phase, if the phase's condition names the side that changes (R106). On an inactive channel only the line changes. MODEL'S READING: a line
that has the level already makes no change (notes/assumptions/7.md). -/
def Obligations.FeedbackChangesReachTheirBlock : Prop :=
  ∀ (s : State) (ch : Channel) (d : Side) (level : Bool),
    let u : State := { s with pins := { s.pins with
      feedback := s.pins.feedback.set d ((s.pins.feedback.get d).set ch level) } }
    let f := s.feeder ch
    let proven := !u.fbClosed ch .A && !u.fbClosed ch .B
    let next := exec (.feedbackChange ch d level) s
    ((s.pins.feedback.get d)[ch] = level → next = .next s)
    ∧ ((s.pins.feedback.get d)[ch] ≠ level →
      (s.active ch = false → next = .next u)
      ∧ (s.active ch = true →
        (f.state = .fault → f.openCheck = none →
          next = .next { u with feeders := u.feeders.set ch { f with watch := ⟨none, none⟩ } })
        ∧ ((f.state = .dark ∨ f.state = .on .A ∨ f.state = .on .B) → f.openCheck = none →
          next = .next { u with feeders := u.feeders.set ch { f with watch :=
            ⟨if f.drive.a = u.fbClosed ch .A then none else some (f.watch.a.getD 0),
             if f.drive.b = u.fbClosed ch .B then none else some (f.watch.b.getD 0)⟩ } })
        ∧ (f.state = .dark → f.openCheck.isSome = true → proven = false → next = .next u)
        ∧ (f.state = .dark → f.openCheck.isSome = true → f.drive = ⟨false, false⟩ → proven = true →
          next = .next ({ u with
            feeders := u.feeders.set ch { f with openCheck := none, watch := ⟨none, none⟩ } } : State).scan)
        ∧ (∀ h, f.state = .transfer → s.transfer = some h →
          (h.feeder ≠ ch ∨ s.pins.resetN = false → next = .next u)
          ∧ (h.feeder = ch → s.pins.resetN = true →
            (∀ a, h.phase = .opening → h.fromSide = some a → (d ≠ a ∨ u.fbClosed ch a = true) → next = .next u)
            ∧ (∀ a, h.phase = .opening → h.fromSide = some a → d = a → u.fbClosed ch a = false →
                next = .next { u with transfer := some { h with
                  phase := .dead, deadline := h.deadTime * 1000 } })
            ∧ (h.phase = .dead → next = .next u)
            ∧ (h.phase = .closing → h.releasing = false → (d ≠ h.target ∨ u.fbClosed ch h.target = false) →
                next = .next u)
            ∧ (h.phase = .closing → h.releasing = false → d = h.target → u.fbClosed ch h.target = true →
                next = .next
                  (u.endTransfer h (.on h.target) .none .done .none [.transferDone]).scan)
            ∧ (h.phase = .closing → h.releasing = true → (d ≠ h.target ∨ u.fbClosed ch h.target = true) →
                next = .next u)
            ∧ (h.phase = .closing → h.releasing = true → d = h.target → u.fbClosed ch h.target = false →
                next = .next
                  (u.endTransfer h .dark .none .failed .closeTimeout [.transferFailed]).scan)
            ∧ (∀ a why, h.phase = .fallback → h.fromSide = some a → h.fallback = some why →
                ((u.fbClosed ch a = false ∨ u.fbClosed ch h.target = true) → next = .next u)
                ∧ (u.fbClosed ch a = true → u.fbClosed ch h.target = false → next = .next
                  (u.endTransfer h (.on a) .none .failed why.reason [.transferFailed]).scan))))))

/-- R59, R62, R63: a disagreement that has lasted longer than the close timeout in force, and an open
check that runs out with a feedback reading closed, make the feeder FAULT: flushed, both drives open, its
order removed as FAILED, FEEDER_FAULT raised. With both feedbacks open the open check ends and the queue
scans. An expiry that is not due does not happen (notes/assumptions/3.md, 18.md). -/
def Obligations.DisagreementsAndOpenChecksFaultTheFeeder : Prop :=
  ∀ (s : State) (ch : Channel) (d : Side),
    let f := s.feeder ch
    let watched := (f.state = .dark ∧ f.openCheck = none) ∨ f.state = .on .A ∨ f.state = .on .B
    let faulted (cause : FaultCause) : State :=
      let u := s.flush ch
      ({ u with
        feeders := u.feeders.set ch { u.feeder ch with
          state := .fault, cause := cause, drive := ⟨false, false⟩, openCheck := none
          watch := ⟨none, none⟩
          last := match s.orderFor ch with
            | some o => some ⟨o.target, .failed, .feederFault, s.now⟩
            | none => f.last }
        queue := s.queue.filter fun o => o.feeder != ch } : State).raise .feederFault
    (∀ ms, s.active ch = true → watched → f.drive.get d ≠ s.fbClosed ch d → f.watch.get d = some ms →
      (s.params.closeTimeout < ms → exec (.disagreementTimerExpiry ch d) s = .next (faulted
        (if f.drive.get d then .unexpectedOpen else .unexpectedClose)))
      ∧ (ms ≤ s.params.closeTimeout → exec (.disagreementTimerExpiry ch d) s = .next s))
    ∧ ((s.active ch = false ∨ ¬ watched ∨ f.drive.get d = s.fbClosed ch d ∨ f.watch.get d = none) →
        exec (.disagreementTimerExpiry ch d) s = .next s)
    ∧ (s.active ch = true → f.openCheck = some 0 →
        (s.fbClosed ch .A = true ∨ s.fbClosed ch .B = true) →
        exec (.openCheckDeadline ch) s = .next (faulted .stuck))
    ∧ (s.active ch = true → f.openCheck = some 0 → f.state = .dark → f.drive = ⟨false, false⟩ →
        s.fbClosed ch .A = false → s.fbClosed ch .B = false →
        exec (.openCheckDeadline ch) s = .next ({ s with
          feeders := s.feeders.set ch { f with openCheck := none, watch := ⟨none, none⟩ } } : State).scan)
    ∧ ((s.active ch = false ∨ f.openCheck ≠ some 0) → exec (.openCheckDeadline ch) s = .next s)

/-! ## Orders and transfers (chapters 5 and 6) -/

/-- R92, R93: with the clock VALID relief generation places an order for each qualifying feeder without
one, in channel order, until the queue holds 8, when RELIEF_DROPPED is raised for the first left out, as
it is at minute 1,048,575; with the clock INVALID it places none and raises RELIEF_DROPPED if any feeder
wanted one. With no relief set it does nothing. -/
def Obligations.ReliefOrdersAreGenerated : Prop :=
  ∀ (s : State) (i rel : SetSlot) (window : Nat),
    let other (ch : Channel) : Option Side := match (s.feeder ch).state with
      | .on d => if (s.feeder ch).bound.get d = some i ∧ (s.feeder ch).bound.get d.other = some rel then
          some d.other else none
      | _ => none
    let wanting := channels.filter fun ch =>
      s.active ch && (other ch).isSome && s.queue.all fun o => o.feeder != ch
    let order (ch : Channel) : Order := ⟨ch, (other ch).getD .A, s.clock.minute,
      min (s.clock.minute + window) 1048575, .relief, .notDue⟩
    let placed := wanting.take (8 - s.queue.length)
    let t : State := { s with queue := placed.foldl (fun q ch => insertOrder (order ch) q) s.queue }
    s.generateRelief i none window = s
    ∧ (s.clock.valid = false → s.generateRelief i (some rel) window =
        if wanting = [] then s else s.raise .reliefDropped)
    ∧ (s.clock.valid = true → s.clock.minute = 1048575 → s.generateRelief i (some rel) window =
        if wanting = [] then s else s.raise .reliefDropped)
    ∧ (s.clock.valid = true → s.clock.minute ≠ 1048575 → s.generateRelief i (some rel) window =
        if wanting.length ≤ 8 - s.queue.length then t else t.raise .reliefDropped)

/-- R84, R86, R87, R88: Enqueue Order makes its nine checks in order; a new order joins behind every order
that starts no later and in front of every later one, with origin OPERATOR and reason NOT_DUE, and the
queue scans. Cancel Order takes the feeder's order out, recording CANCELLED, HOST_CANCEL, with no scan. -/
def Obligations.OrdersJoinInTheirPlaceAndAreCancelled : Prop :=
  (∀ (o : Order) (q : List Order), q.Pairwise (fun x y => x.startMin ≤ y.startMin) →
    ∃ pre post, q = pre ++ post ∧ insertOrder o q = pre ++ o :: post
      ∧ (∀ p ∈ pre, p.startMin ≤ o.startMin) ∧ ∀ p ∈ post, o.startMin < p.startMin)
  ∧ (∀ (s : State) (cb db : Byte) (m n : BitVec 24) (ch : Channel) (d : Side), s.portOpen = true →
    cb.toNat = ch.val → db.toNat = sideCode (some d) →
    let c := Instr.enqueueOrder cb db m n
    let f := s.feeder ch
    let refused := s.refused
    let stateBars := f.state = .fault ∨ f.state = .transfer ∨ f.bound.get d = none ∨ f.state = .on d
    let window := m.toNat + 2 ≤ n.toNat ∧ s.clock.minute < n.toNat
    let has := ∃ o ∈ s.queue, o.feeder = ch
    (1048575 < m.toNat ∨ 1048575 < n.toNat → exec c s = refused .range)
    ∧ (m.toNat ≤ 1048575 → n.toNat ≤ 1048575 →
      (s.clock.valid = false → exec c s = refused .noClock)
      ∧ (s.clock.valid = true → s.active ch = false → exec c s = refused .noRecord)
      ∧ (s.clock.valid = true → s.active ch = true →
        (stateBars → exec c s = refused .state)
        ∧ (¬ stateBars → ¬ window → exec c s = refused .range)
        ∧ (¬ stateBars → window → has → exec c s = refused .exists)
        ∧ (¬ stateBars → window → ¬ has → 8 ≤ s.queue.length → exec c s = refused .full)
        ∧ (¬ stateBars → window → ¬ has → s.queue.length < 8 →
          let t := ({ s with queue := insertOrder ⟨ch, d, m.toNat, n.toNat, .operator, .notDue⟩ s.queue } :
            State).scan
          exec c s = .next { t with
            sdo := .low, result := ⟨.ok, be 1 ch.val ++ be 1 (sideCode (some d)) ++
              (match t.queue.find? (·.feeder == ch) with
               | some o => be 1 0 ++ be 1 (t.queue.findIdx (·.feeder == ch)) ++ be 1 o.wait.code
               | none => be 1 1 ++ be 1 255 ++ be 1 255)
              ++ be 1 t.queue.length⟩ }))))
  ∧ (∀ (s : State) (cb : Byte) (ch : Channel), s.portOpen = true → cb.toNat = ch.val →
    s.active ch = true →
    let refused := s.refused
    (s.transfer.map (·.feeder) = some ch → exec (.cancelOrder cb) s = refused .state)
    ∧ (s.transfer.map (·.feeder) ≠ some ch → (∀ o ∈ s.queue, o.feeder ≠ ch) →
        exec (.cancelOrder cb) s = refused .noRecord)
    ∧ (∀ pre o post, s.transfer.map (·.feeder) ≠ some ch → s.queue = pre ++ o :: post → o.feeder = ch →
        (∀ p ∈ pre ++ post, p.feeder ≠ ch) →
        exec (.cancelOrder cb) s = .next { s with
          queue := pre ++ post
          feeders := s.feeders.set ch
            { s.feeder ch with last := some ⟨o.target, .cancelled, .hostCancel, s.now⟩ }
          sdo := .low, result := ⟨.ok, be 1 ch.val ++ be 1 (if o.origin = .relief then 1 else 0)
            ++ be 1 (sideCode (some o.target)) ++ be 1 (pre.length + post.length)⟩ }))

/-- R97, R99, R100: a scan that cannot hand an order over, because a transfer is in hand, the mode is not
ACTIVE, RESET_N is low, or no order that passes the first five tests has its feeder's open check ended,
writes each order's wait reason and changes nothing else. The reason is the first of the six tests of R97
that the order fails, with the headroom of R96. -/
def Obligations.AScanThatHandsNothingOverWritesWaitReasons : Prop :=
  ∀ s : State,
    let reason (o : Order) (i : SetSlot) (r : SetRec) : Wait :=
      let f := s.feeder o.feeder
      let own := if s.active o.feeder && f.energisedSet == some i then f.demand else 0
      if s.clock.valid = false ∨ s.clock.minute < o.startMin then .notDue
      else if r.running = false then .notRunning
      else if r.conds.dry = true then .targetDry
      else if (r.rating : Int) * r.loadLimit - (s.committed i - own) < f.demand then .noHeadroom
      else if r.runtime < s.params.minRuntime then .lowRuntime
      else .sequencerBusy
    (s.transfer.isSome = true ∨ s.mode ≠ .active ∨ s.pins.resetN = false
      ∨ ∀ o ∈ s.queue, ∀ i r, (s.feeder o.feeder).bound.get o.target = some i → s.set? i = some r →
          reason o i r = .sequencerBusy → (s.feeder o.feeder).openCheck ≠ none) →
    (∀ o ∈ s.queue, s.clock.minute < o.endMin) →
    (∀ o ∈ s.queue, ∃ i r, (s.feeder o.feeder).bound.get o.target = some i ∧ s.set? i = some r) →
    s.scan = { s with queue := s.scan.queue }
    ∧ s.scan.queue.length = s.queue.length
    ∧ ∀ (k : Nat) (o : Order) (i : SetSlot) (r : SetRec), s.queue[k]? = some o →
        (s.feeder o.feeder).bound.get o.target = some i → s.set? i = some r →
        s.scan.queue[k]? = some { o with wait := reason o i r }

/-- R98, R99, R100: a scan takes the first eligible order that can be handed over out of the queue, has the
sequencer take it, and writes the wait reasons of the orders before it as they stood and of those behind
it after the take. MODEL'S READING: it makes at most one hand-over, also where the transfer ends within its
take (notes/assumptions/11.md). Whatever a scan does, the records it is not to reach stay as they are. -/
def Obligations.AScanHandsOverTheFirstEligibleOrder : Prop :=
  (∀ (s : State) (pre : List Order) (o : Order) (post : List Order),
    let ready (p : Order) : Prop := s.waitReason p = none ∧ s.clock.minute < p.endMin
      ∧ (s.feeder p.feeder).openCheck = none
    s.queue = pre ++ o :: post → s.transfer = none → s.mode = .active → s.pins.resetN = true →
    (∀ p ∈ pre, ¬ ready p) → ready o →
    let u := s.take o.feeder o.target
    s.scan = { u with queue := pre.map s.leftWaiting ++ post.map u.leftWaiting })
  ∧ (∀ s : State, KeepsOtherRecords s s.scan ∧ s.scan.result = s.result ∧ s.scan.mask = s.mask
      ∧ s.scan.staging = s.staging ∧ s.scan.straps = s.straps ∧ s.scan.pins = s.pins)

/-- R105, R107, R109, R111: the take flushes the feeder to the set it leaves, makes it TRANSFER with its
disagreement timers cancelled, and begins OPENING with the old side driven open, or DEAD if that contact
reads open already; from DARK it begins CLOSING with the target side driven closed, and ends DONE if that
contact reads closed already. -/
def Obligations.TheTakeBeginsOpenTransition : Prop :=
  ∀ (s : State) (ch : Channel) (d : Side),
    let u := s.flush ch
    let f := u.feeder ch
    let held (drive : PerSide Bool) : State := { u with
      feeders := u.feeders.set ch
        { f with state := .transfer, cause := .none, watch := ⟨none, none⟩, drive := drive } }
    (∀ a, f.state = .on a →
      let h (phase : Phase) (deadline : Nat) : Transfer :=
        ⟨ch, some a, d, f.deadTime, phase, false, none, deadline, 0⟩
      s.take ch d = { held (f.drive.set a false) with
        transfer := some (if s.fbClosed ch a then h .opening s.params.openTimeout
          else h .dead (f.deadTime * 1000)) })
    ∧ (f.state = .dark →
      let h : Transfer := ⟨ch, none, d, f.deadTime, .closing, false, none, s.params.closeTimeout, 0⟩
      u = s ∧ s.take ch d = if s.fbClosed ch d then
          (held (f.drive.set d true)).endTransfer h (.on d) .none .done .none [.transferDone]
        else { held (f.drive.set d true) with transfer := some h })

/-- R113, R121, R62: a transfer's end gives the feeder its state and cause, both drives open in FAULT,
writes both records with the minute of the end, raises the flags of the ending and leaves the sequencer
IDLE; the monitor watches the feeder again. -/
def Obligations.TheEndOfATransferIsRecorded : Prop :=
  ∀ (s : State) (h : Transfer) (st : FeederState) (cause : FaultCause) (o : TransferOutcome) (why : Reason)
    (flags : List Flag),
    let f := s.feeder h.feeder
    let t := s.endTransfer h st cause o why flags
    let drive := if st = .fault then ⟨false, false⟩ else f.drive
    let timer (side : Side) : Option Nat :=
      if s.active h.feeder = true ∧ ((st = .dark ∧ f.openCheck = none) ∨ st = .on .A ∨ st = .on .B)
          ∧ drive.get side ≠ s.fbClosed h.feeder side then some ((f.watch.get side).getD 0) else none
    t.feeder h.feeder = { f with
        state := st, cause := cause, drive := drive, last := some ⟨h.target, o, why, s.now⟩
        watch := ⟨timer .A, timer .B⟩ }
    ∧ (∀ ch, ch ≠ h.feeder → t.feeder ch = s.feeder ch)
    ∧ t.transfer = none
    ∧ t.lastOutcome = some ⟨h.feeder, h.fromSide, h.fromSide.bind fun d => f.bound.get d, h.target,
        f.bound.get h.target, o, why, h.phase, h.releasing, s.now, h.elapsed⟩
    ∧ (∀ g : Flag, t.flags.getLsbD g.bit = (s.flags.getLsbD g.bit
        || (decide (g ∈ flags) && s.pins.resetN && s.mask.getLsbD g.bit)))
    ∧ t = { s with feeders := t.feeders, transfer := t.transfer, lastOutcome := t.lastOutcome
                   flags := t.flags, snapshot := t.snapshot }

/-- R108 to R112, R119: what the deadline of each phase does once it has run out with RESET_N high. A
deadline that has not run out, or that another phase's row names, does not happen
(notes/assumptions/3.md). R114: at the close timeout from DARK the releasing part stands if FB_T reads closed,
or if its change to closed comes at the same moment. MODEL'S READING: what comes at the same moment waits in
the queue (notes/assumptions/31.md). -/
def Obligations.DeadlinesEndTheirPhases : Prop :=
  ∀ (s : State) (h : Transfer), s.transfer = some h → s.pins.resetN = true → h.deadline = 0 →
    let ch := h.feeder
    let f := s.feeder ch
    let driving (drive : PerSide Bool) : State :=
      { s with feeders := s.feeders.set ch { f with drive := drive } }
    let t := h.target
    let fallBack (a : Side) (why : FallbackReason) : State :=
      let u := driving ((f.drive.set t false).set a true)
      let g : Transfer := { h with phase := .fallback, fallback := some why, deadline := s.params.closeTimeout }
      if s.fbClosed ch a = true ∧ s.fbClosed ch t = false then
        (u.endTransfer g (.on a) .none .failed why.reason [.transferFailed]).scan
      else { u with transfer := some g }
    (∀ a, h.phase = .opening → h.fromSide = some a → exec .openTimeout s = .next
      ((driving (f.drive.set a true)).endTransfer h (.on a) .none .failed .openTimeout
        [.transferFailed]).scan)
    ∧ (∀ a i r, h.phase = .dead → h.fromSide = some a → f.bound.get t = some i → s.set? i = some r →
      (r.running = true → exec .deadTimeExpiry s = .next
        (let u := driving (f.drive.set t true)
         let g : Transfer := { h with phase := .closing, releasing := false, deadline := s.params.closeTimeout }
         if s.fbClosed ch t then (u.endTransfer g (.on t) .none .done .none [.transferDone]).scan
         else { u with transfer := some g }))
      ∧ (r.running = false → exec .deadTimeExpiry s = .next (fallBack a .targetStopped)))
    ∧ (∀ a, h.phase = .closing → h.releasing = false → h.fromSide = some a →
        exec .closeTimeout s = .next (fallBack a .closeTimeout))
    ∧ (h.phase = .closing → h.releasing = false → h.fromSide = none → exec .closeTimeout s = .next
        (let u := driving (f.drive.set t false)
         let g : Transfer := { h with releasing := true, deadline := s.params.openTimeout }
         if s.fbClosed ch t = true ∨ .feedbackChange ch t (!s.straps.fbLow) ∈ s.pending then
           { u with transfer := some g }
         else (u.endTransfer g .dark .none .failed .closeTimeout [.transferFailed]).scan))
    ∧ (h.phase = .closing → h.releasing = true → exec .releaseDeadline s = .next
        (s.endTransfer h .fault .stuck .failed .closeTimeout [.transferFailed, .feederFault]).scan)
    ∧ (h.phase = .fallback → exec .fallbackTimeout s = .next
        (s.endTransfer h .fault .stuck .failed .fallbackTimeout [.transferFailed, .feederFault]).scan)
    ∧ (h.phase ≠ .opening → exec .openTimeout s = .next s)
    ∧ (h.phase ≠ .dead → exec .deadTimeExpiry s = .next s)
    ∧ (h.phase ≠ .closing ∨ h.releasing = true → exec .closeTimeout s = .next s)
    ∧ (h.phase ≠ .closing ∨ h.releasing = false → exec .releaseDeadline s = .next s)
    ∧ (h.phase ≠ .fallback → exec .fallbackTimeout s = .next s)
    ∧ ∀ v : State, v.transfer = none ∨ v.pins.resetN = false ∨ (∀ g ∈ v.transfer, g.deadline ≠ 0) →
        exec .openTimeout v = .next v ∧ exec .deadTimeExpiry v = .next v
        ∧ exec .closeTimeout v = .next v ∧ exec .releaseDeadline v = .next v
        ∧ exec .fallbackTimeout v = .next v

/-! ## Fuel deliveries (chapter 7) -/

/-- R126, R127, R136, R137, R139, R142: Register Supplier, Open Ticket, Cancel Ticket and Set Permit Mode
make their checks in order and write one supplier or one position; the permit output follows the mode and
the ticket. -/
def Obligations.TicketsOpenCancelAndPermit : Prop :=
  ∀ (s : State), s.portOpen = true →
    let refused := s.refused
    (∀ (nb : Byte) (k : BitVec 24) (n : SupplierNo), nb.toNat = n.val →
      (k.toNat = 0 ∨ 999999 < k.toNat → exec (.registerSupplier nb k) s = refused .range)
      ∧ (1 ≤ k.toNat → k.toNat ≤ 999999 → (s.supplier n).docket ≠ .unregistered →
          exec (.registerSupplier nb k) s = refused .exists)
      ∧ (1 ≤ k.toNat → k.toNat ≤ 999999 → (s.supplier n).docket = .unregistered →
          exec (.registerSupplier nb k) s = .next { s with
            suppliers := s.suppliers.set n ⟨.next k.toNat, 0, 0⟩
            sdo := .low, result := ⟨.ok, be 1 n.val ++ be 3 k.toNat⟩ }))
    ∧ (∀ (pb ib nb : Byte) (q : BitVec 32) (p : PositionNo) (i : SetSlot) (n : SupplierNo),
      pb.toNat = p.val → ib.toNat = i.val + 1 → nb.toNat = n.val →
      let c := Instr.openTicket pb ib nb q
      ((s.position p).ticket ≠ none → exec c s = refused .state)
      ∧ ((s.position p).ticket = none → s.set? i = none → exec c s = refused .noRecord)
      ∧ ∀ r, (s.position p).ticket = none → s.set? i = some r →
        ((s.supplier n).docket = .unregistered → exec c s = refused .noSupplier)
        ∧ ((s.supplier n).docket = .exhausted → exec c s = refused .full)
        ∧ ∀ k, (s.supplier n).docket = .next k →
          let room := r.capacity - r.tank
          let stored := min q.toNat room
          exec c s = .next { s with
            positions := s.positions.set p { s.position p with
              ticket := some ⟨.ready, i, n, stored, stored, 0, 0, 0, 0, false, false⟩ }
            sdo := .low, result := ⟨if room < q.toNat then .clamped else .ok,
              be 1 p.val ++ be 1 (i.val + 1) ++ be 1 n.val ++ be 3 stored ++ be 3 room ++ be 3 k⟩ })
    ∧ (∀ (pb : Byte) (p : PositionNo), pb.toNat = p.val →
      (∀ t, (s.position p).ticket = some t → t.state = .ready → exec (.cancelTicket pb) s = .next { s with
        positions := s.positions.set p { s.position p with ticket := none }
        sdo := .low, result := ⟨.ok, be 1 p.val ++ be 1 (t.set.val + 1) ++ be 1 t.supplier.val⟩ })
      ∧ ((∀ t ∈ (s.position p).ticket, t.state ≠ .ready) → exec (.cancelTicket pb) s = refused .state))
    ∧ (∀ (pb mb : Byte) (p : PositionNo), pb.toNat = p.val →
      (2 < mb.toNat → exec (.setPermitMode pb mb) s = refused .range)
      ∧ ((s.position p).mode = .forceOn → mb.toNat = 0 → exec (.setPermitMode pb mb) s = .next { s with
          sdo := .low, result := ⟨.sequence, be 1 p.val ++ be 1 2 ++ be 1 1⟩ })
      ∧ ∀ m : PermitMode, mb.toNat = m.code → ¬ ((s.position p).mode = .forceOn ∧ m = .auto) →
        let q : Position := { s.position p with mode := m }
        exec (.setPermitMode pb mb) s = .next { s with
          positions := s.positions.set p q
          sdo := .low, result := ⟨.ok, be 1 p.val ++ be 1 m.code ++ be 1 q.permitOn.toNat⟩ })

/-- R136: the permit output is on exactly while its mode is FORCE_ON, or its mode is AUTO and its ticket is
DISPENSING with remaining above 0. -/
def Obligations.PermitOutputFollowsModeAndTicket : Prop :=
  ∀ p : Position, p.permitOn = true ↔
    p.mode = .forceOn
      ∨ (p.mode = .auto ∧ ∃ t, p.ticket = some t ∧ t.state = .dispensing ∧ 0 < t.remaining)

/-- R138, R140, R141: Close Ticket makes its checks in order, STATE, FULL and DOCKET reporting the
supplier's next docket and the ticket's state; taken, it raises the next docket by one, or exhausts it at
999,999, counts the close, adds the credited figure and empties the position. MODEL'S CHOICE: bits 2 to 7 of
byte 20 of its figures, which R193 gives no meaning, read 0 (notes/assumptions/30.md). -/
def Obligations.CloseTicketUsesTheNextDocket : Prop :=
  ∀ (s : State) (pb : Byte) (docket : BitVec 24) (p : PositionNo), s.portOpen = true → pb.toNat = p.val →
    let c := Instr.closeTicket pb docket
    let answers (st : Status) (data : List Byte) :=
      Host.Outcome.next (φ := Fault) (ρ := Refusal) { s with sdo := .low, result := ⟨st, data⟩ }
    let code (t : Ticket) : Nat := match t.state with
      | .ready => 1
      | .dispensing => 2
      | .paused => 3
    let next (d : Docket) : Nat := match d with
      | .unregistered => 0
      | .next k => k
      | .exhausted => 0xFFFFFF
    (docket.toNat = 0 ∨ 999999 < docket.toNat → exec c s = answers .range [])
    ∧ (1 ≤ docket.toNat → docket.toNat ≤ 999999 →
      ((s.position p).ticket = none → exec c s = answers .state (be 1 p.val ++ be 3 0 ++ be 1 0))
      ∧ ∀ t, (s.position p).ticket = some t →
        let r := s.supplier t.supplier
        let figures := be 1 p.val ++ be 3 (next r.docket) ++ be 1 (code t)
        (t.state = .dispensing → exec c s = answers .state figures)
        ∧ (t.state ≠ .dispensing → r.docket = .exhausted → exec c s = answers .full figures)
        ∧ (t.state ≠ .dispensing → r.docket ≠ .exhausted → r.docket ≠ .next docket.toNat →
            exec c s = answers .docket figures)
        ∧ (t.state ≠ .dispensing → r.docket = .next docket.toNat →
          let after : Docket := if docket.toNat = 999999 then .exhausted else .next (docket.toNat + 1)
          exec c s = .next { s with
            suppliers := s.suppliers.set t.supplier
              ⟨after, r.closed + 1, min 4294967295 (r.delivered + t.credited)⟩
            positions := s.positions.set p { s.position p with ticket := none }
            sdo := .low, result := ⟨.ok, be 1 p.val ++ be 1 (t.set.val + 1) ++ be 1 t.supplier.val
              ++ be 3 docket.toNat ++ be 3 t.ordered ++ be 4 (signedField 4 t.remaining)
              ++ be 3 t.delivered ++ be 3 t.credited ++ be 1 t.lifts
              ++ be 1 (t.preset.toNat + 2 * t.overrun.toNat) ++ be 3 (next after)⟩ }))

/-- R125, R128 to R133: a pulse is counted on a DISPENSING ticket, with the preset and the overrun limit,
and is stray at any other position; a lift makes a READY or PAUSED ticket DISPENSING; a hang-up makes a
DISPENSING ticket PAUSED and credits its run to the set, the excess over the capacity as overfill. A line
that has its level already does not change (notes/assumptions/7.md). -/
def Obligations.PulsesLiftsAndHangUpsMeterTheTicket : Prop :=
  ∀ (s : State) (p : PositionNo),
    let q := s.position p
    let w := if s.straps.fuelFine then 10 else 100
    let put (q' : Position) : State := { s with positions := s.positions.set p q' }
    let line (level : Bool) : State :=
      { s with pins := { s.pins with nozzle := s.pins.nozzle.set p level } }
    ((∀ t ∈ q.ticket, t.state ≠ .dispensing) → exec (.fuelPulse p) s = .next
      ((put { q with stray := min 16777215 (q.stray + w) }).raise .strayFuel))
    ∧ (∀ t, q.ticket = some t → t.state = .dispensing →
      let left := max (-100000) (t.remaining - w)
      let reached := decide (0 < t.remaining) && decide (left ≤ 0)
      let limit := decide (t.remaining - w ≤ -100000)
      exec (.fuelPulse p) s = .next
        (((put { q with ticket := some { t with
            delivered := min 16777215 (t.delivered + w), remaining := left
            preset := t.preset || reached, overrun := t.overrun || limit } }).raiseIf
          reached .presetReached).raiseIf (limit && !t.overrun) .overrunLimit))
    ∧ (s.pins.nozzle[p] = true → exec (.nozzleLift p) s = .next s)
    ∧ (s.pins.nozzle[p] = false → exec (.hangUp p) s = .next s)
    ∧ (s.pins.nozzle[p] = false →
      (q.ticket = none → exec (.nozzleLift p) s = .next (line true))
      ∧ ∀ t, q.ticket = some t → t.state ≠ .dispensing → exec (.nozzleLift p) s = .next { line true with
          positions := s.positions.set p { q with ticket := some { t with
            state := .dispensing, lifts := min 255 (t.lifts + 1), liftMark := t.delivered } } })
    ∧ (s.pins.nozzle[p] = true →
      ((∀ t ∈ q.ticket, t.state ≠ .dispensing) → exec (.hangUp p) s = .next (line false))
      ∧ ∀ t r, q.ticket = some t → t.state = .dispensing → s.set? t.set = some r →
        let inc := t.delivered - t.liftMark
        let paused : State := { line false with
          positions := s.positions.set p { q with ticket := some { t with
            state := .paused, credited := t.credited + inc } } }
        (inc = 0 → exec (.hangUp p) s = .next (paused.raise .nozzleDown))
        ∧ (0 < inc → r.conds.reserve = decide (r.tank ≤ r.reserve) → r.conds.dry = decide (r.tank = 0) →
            r.tank ≤ r.capacity →
          let tank := min (r.tank + inc) r.capacity
          exec (.hangUp p) s = .next ((({ paused with
            sets := s.sets.set t.set (some { r with
              tank := tank, credited := min 4294967295 (r.credited + inc)
              overfill := min 4294967295 (r.overfill + (r.tank + inc - r.capacity))
              runtime := if r.rate = 0 then 65535 else min (tank * 60 / r.rate) 65534
              conds := { r.conds with reserve := decide (tank ≤ r.reserve), dry := decide (tank = 0) } }) }
            : State).raiseIf (decide (r.capacity < r.tank + inc)) .overfill).raise .nozzleDown)))

/-! ## Accounts and tariff (chapter 8) -/

/-- R73, R149, R152, R153: Open Account fills the lowest free slot; Retire Account makes its checks in
order, moves the account's carried entries into their sets' overflows and frees the slot. -/
def Obligations.AccountsOpenAndRetire : Prop :=
  ∀ (s : State), s.portOpen = true →
    let refused := s.refused
    (∀ (code : BitVec 32) (label : List Byte),
      let taken := ∃ a r, s.account? a = some r ∧ r.code = code
      let start := if s.clock.valid then s.clock.minute else 0
      (taken → exec (.openAccount code label) s = refused .exists)
      ∧ (¬ taken → (∀ a, (s.account? a).isSome = true) → exec (.openAccount code label) s = refused .full)
      ∧ ∀ a, ¬ taken → s.account? a = none → (∀ b, b < a → (s.account? b).isSome = true) →
        exec (.openAccount code label) s = .next { s with
          accounts := s.accounts.set a (some
            ⟨code, label, start, 1, false, false, none, Vector.replicate 4 0, 0, 0, 0⟩)
          sdo := .low, result := ⟨.ok, be 1 a.val ++ be 3 start⟩ })
    ∧ (∀ (b : Byte), b.toNat = 0 → exec (.retireAccount b) s = refused .range)
    ∧ (∀ (b : Byte) (a : AccountSlot) (r : Account), b.toNat = a.val → a ≠ 0 → s.account? a = some r →
      let c := Instr.retireAccount b
      let unused := (∀ k : Band, r.band[k] = 0) ∧ r.energyAccrual = 0 ∧ r.fuelShare = 0 ∧ r.fuelAccrual = 0
      let named := (∃ ch, (s.feeder ch).account = a) ∨ ∃ i q, s.set? i = some q ∧ q.idle = a
      let mine (q : SetRec) : List Nat := (q.carried.filter fun x => x.1 == a).map (·.2)
      let moved := s.sets.toList.flatMap fun x => (x.map mine).getD []
      (r.hold = true → exec c s = refused .held)
      ∧ (r.hold = false → r.statement ≠ none → exec c s = refused .pending)
      ∧ (r.hold = false → r.statement = none →
        (¬ unused → exec c s = refused .unsettled)
        ∧ (unused → named → exec c s = refused .inUse)
        ∧ (unused → ¬ named → exec c s = .next { s with
          sets := s.sets.map (Option.map fun q => { q with
            carried := q.carried.filter fun x => x.1 != a
            overflow := min 4294967295 (q.overflow + (mine q).sum) })
          accounts := s.accounts.set a none
          sdo := .low, result := ⟨.ok, be 1 a.val ++ be 4 r.code.toNat ++ be 1 moved.length
            ++ be 4 (min 4294967295 moved.sum)⟩ })))

/-- R160 to R166: Settle Account makes its checks in order, builds the statement with each charge rounded
to the nearest cent, a half up, and starts a new period; Release Statement removes the statement; Place
Hold and Release All Holds set and clear the holds. -/
def Obligations.AccountsSettleReleaseAndHold : Prop :=
  ∀ (s : State), s.portOpen = true →
    let refused := s.refused
    let holds (l : List (Option Account)) : Nat := (l.filter fun x => (x.map (·.hold)).getD false).length
    (∀ (b : Byte) (a : AccountSlot) (r : Account), b.toNat = a.val → s.account? a = some r →
      let put (r' : Account) (data : List Byte) : State :=
        { s with accounts := s.accounts.set a (some r'), sdo := .low, result := ⟨.ok, data⟩ }
      (r.hold = true → exec (.settleAccount b) s = refused .held)
      ∧ (r.hold = false → r.statement ≠ none → exec (.settleAccount b) s = refused .pending)
      ∧ (r.hold = false → r.statement = none → s.clock.valid = false →
          exec (.settleAccount b) s = refused .noClock)
      ∧ (r.hold = false → r.statement = none → s.clock.valid = true →
        let energy := (r.energyAccrual + 5000) / 10000
        let fuel := (r.fuelAccrual + 500) / 1000
        exec (.settleAccount b) s = .next (put { r with
            statement := some ⟨r.nextStatement, r.periodStart, s.clock.minute, r.band, r.fuelShare, energy,
              fuel, energy + fuel, r.saturated⟩
            band := Vector.replicate 4 0, energyAccrual := 0, fuelShare := 0, fuelAccrual := 0
            saturated := false, periodStart := s.clock.minute
            nextStatement := if r.nextStatement = 65535 then 1 else r.nextStatement + 1 }
          (be 1 a.val ++ be 2 r.nextStatement ++ be 5 energy ++ be 5 fuel ++ be 5 (energy + fuel))))
      ∧ (r.statement = none → exec (.releaseStatement b) s = refused .noRecord)
      ∧ (∀ st, r.statement = some st → exec (.releaseStatement b) s = .next
          (put { r with statement := none } (be 1 a.val ++ be 2 st.number)))
      ∧ exec (.placeHold b) s = .next (put { r with hold := true }
          (be 1 a.val ++ be 1 (holds (s.accounts.set a (some { r with hold := true })).toList))))
    ∧ exec .releaseAllHolds s = .next { s with
        accounts := s.accounts.map (Option.map fun r => { r with hold := false })
        sdo := .low, result := ⟨.ok, be 1 (holds s.accounts.toList)⟩ }

/-- R155: the three tariff commands store a pending value, the earlier one lost, and report the live and
the pending value; no live value, and nothing else, changes. A band above 3 or an hour above 23 is refused with RANGE. -/
def Obligations.TariffWritesWait : Prop :=
  ∀ (s : State), s.portOpen = true →
    (∀ (bb : Byte) (b : Band) (rate : BitVec 16), bb.toNat = b.val →
      exec (.setBandRate bb rate) s = .next { s with
        tariff := { s.tariff with
          rates := s.tariff.rates.set b ⟨(s.tariff.rates[b]).live, some rate.toNat⟩ }
        sdo := .low, result := ⟨.ok, be 1 b.val ++ be 2 (s.tariff.rates[b]).live ++ be 2 rate.toNat⟩ })
    ∧ (∀ price : BitVec 16, exec (.setFuelPrice price) s = .next { s with
        tariff := { s.tariff with price := ⟨s.tariff.price.live, some price.toNat⟩ }
        sdo := .low, result := ⟨.ok, be 2 s.tariff.price.live ++ be 2 price.toNat⟩ })
    ∧ (∀ (hb bb : Byte) (h : Hour) (b : Band), hb.toNat = h.val → bb.toNat = b.val →
      exec (.setScheduleSlot hb bb) s = .next { s with
        tariff := { s.tariff with
          schedule := s.tariff.schedule.set h ⟨(s.tariff.schedule[h]).live, some b⟩ }
        sdo := .low, result := ⟨.ok, be 1 h.val ++ be 1 (s.tariff.schedule[h]).live.val ++ be 1 b.val⟩ })
    ∧ (∀ (bb : Byte) (rate : BitVec 16), 3 < bb.toNat →
        exec (.setBandRate bb rate) s = .next { s with sdo := .low, result := ⟨.range, []⟩ })
    ∧ (∀ hb bb : Byte, 23 < hb.toNat ∨ 3 < bb.toNat →
        exec (.setScheduleSlot hb bb) s = .next { s with sdo := .low, result := ⟨.range, []⟩ })

/-! ## What every step keeps -/

/-- R47, R48, R49, R59, R83 to R85, R104: every step keeps the contactors, the feeders' states, the
transfer in hand and the queue in agreement; in a state where they agree, no feeder has both its drives
closed. -/
def Obligations.EveryStepKeepsTheInterlock : Prop :=
  (∀ s t : State, s.Wired → step s = .next t → t.Wired)
  ∧ ∀ s : State, s.Wired → ∀ ch, ¬ ((s.feeder ch).drive.a = true ∧ (s.feeder ch).drive.b = true)

/-- R6, R7, R11, R21, R22, R46, R73, R77, R124, R145, R146, R149, R152: every step keeps the unit numbers of
the hired sets distinct, and the account codes of the open accounts, and every reference to a set, an account
or a supplier on one that exists. -/
def Obligations.EveryStepKeepsReferences : Prop :=
  ∀ s t : State, s.Referenced → step s = .next t → t.Referenced

/-- R6 to R10, R19, R24, R25, R68, R69, R123, R124, R138: every step keeps the figures of the sets, the
curves and the staging buffer in their ranges, the conditions and the runtime matching the figures they
follow; and, with those, the tickets, the positions and the dockets: at rest a ticket has credited what it
delivered, and remaining is what was ordered less what was delivered, down to the overrun limit. -/
def Obligations.EveryStepKeepsSetsAndTicketsInRange : Prop :=
  (∀ s t : State, s.SetsInRange → s.TotalsInRange → step s = .next t → t.SetsInRange)
  ∧ ∀ s t : State, s.SetsInRange → s.FuelInRange → step s = .next t → t.FuelInRange

/-- R46, R48, R120, R146, R147, R168, R172, R173, R175: every step keeps the figures of the feeders, the
accounts and the transfer parameters in range; and it keeps the mode following SUPPLY_OK, no snapshot in a
closed port, no flag while RESET_N is low, and the clock in range. -/
def Obligations.EveryStepKeepsTotalsPortAndClock : Prop :=
  (∀ s t : State, s.TotalsInRange → step s = .next t → t.TotalsInRange)
  ∧ ∀ s t : State, s.PortAndClock → step s = .next t → t.PortAndClock

/-- The part right after reset meets every condition that each step keeps. -/
def Obligations.ResetMeetsEveryCondition : Prop :=
  State.reset.Wired ∧ State.reset.Referenced ∧ State.reset.SetsInRange ∧ State.reset.FuelInRange
    ∧ State.reset.TotalsInRange ∧ State.reset.PortAndClock
end

