-- ==== Sys2Proof/Laws/State.lean ====
section
/-! SUPPORT. For each update of the state, what each field is after it; true by definition. -/

namespace Sys2Proof.Machine

@[simp] theorem State.putSet_uptime (s : State) (i : SetSlot) (r : Option SetRec) : (s.putSet i r).uptime = s.uptime := rfl
@[simp] theorem State.putSet_clock (s : State) (i : SetSlot) (r : Option SetRec) : (s.putSet i r).clock = s.clock := rfl
@[simp] theorem State.putSet_mode (s : State) (i : SetSlot) (r : Option SetRec) : (s.putSet i r).mode = s.mode := rfl
@[simp] theorem State.putSet_straps (s : State) (i : SetSlot) (r : Option SetRec) : (s.putSet i r).straps = s.straps := rfl
@[simp] theorem State.putSet_curves (s : State) (i : SetSlot) (r : Option SetRec) : (s.putSet i r).curves = s.curves := rfl
@[simp] theorem State.putSet_feeders (s : State) (i : SetSlot) (r : Option SetRec) : (s.putSet i r).feeders = s.feeders := rfl
@[simp] theorem State.putSet_queue (s : State) (i : SetSlot) (r : Option SetRec) : (s.putSet i r).queue = s.queue := rfl
@[simp] theorem State.putSet_params (s : State) (i : SetSlot) (r : Option SetRec) : (s.putSet i r).params = s.params := rfl
@[simp] theorem State.putSet_lastOutcome (s : State) (i : SetSlot) (r : Option SetRec) : (s.putSet i r).lastOutcome = s.lastOutcome := rfl
@[simp] theorem State.putSet_positions (s : State) (i : SetSlot) (r : Option SetRec) : (s.putSet i r).positions = s.positions := rfl
@[simp] theorem State.putSet_suppliers (s : State) (i : SetSlot) (r : Option SetRec) : (s.putSet i r).suppliers = s.suppliers := rfl
@[simp] theorem State.putSet_accounts (s : State) (i : SetSlot) (r : Option SetRec) : (s.putSet i r).accounts = s.accounts := rfl
@[simp] theorem State.putSet_tariff (s : State) (i : SetSlot) (r : Option SetRec) : (s.putSet i r).tariff = s.tariff := rfl
@[simp] theorem State.putSet_result (s : State) (i : SetSlot) (r : Option SetRec) : (s.putSet i r).result = s.result := rfl
@[simp] theorem State.putSet_flags (s : State) (i : SetSlot) (r : Option SetRec) : (s.putSet i r).flags = s.flags := rfl
@[simp] theorem State.putSet_mask (s : State) (i : SetSlot) (r : Option SetRec) : (s.putSet i r).mask = s.mask := rfl
@[simp] theorem State.putSet_snapshot (s : State) (i : SetSlot) (r : Option SetRec) : (s.putSet i r).snapshot = s.snapshot := rfl
@[simp] theorem State.putSet_sdo (s : State) (i : SetSlot) (r : Option SetRec) : (s.putSet i r).sdo = s.sdo := rfl
@[simp] theorem State.putSet_staging (s : State) (i : SetSlot) (r : Option SetRec) : (s.putSet i r).staging = s.staging := rfl
@[simp] theorem State.putSet_transfer (s : State) (i : SetSlot) (r : Option SetRec) : (s.putSet i r).transfer = s.transfer := rfl
@[simp] theorem State.putSet_pins (s : State) (i : SetSlot) (r : Option SetRec) : (s.putSet i r).pins = s.pins := rfl
@[simp] theorem State.putSet_pending (s : State) (i : SetSlot) (r : Option SetRec) : (s.putSet i r).pending = s.pending := rfl
@[simp] theorem State.putSet_choices (s : State) (i : SetSlot) (r : Option SetRec) : (s.putSet i r).choices = s.choices := rfl

@[simp] theorem State.updSet_uptime (s : State) (i : SetSlot) (g : SetRec → SetRec) : (s.updSet i g).uptime = s.uptime := rfl
@[simp] theorem State.updSet_clock (s : State) (i : SetSlot) (g : SetRec → SetRec) : (s.updSet i g).clock = s.clock := rfl
@[simp] theorem State.updSet_mode (s : State) (i : SetSlot) (g : SetRec → SetRec) : (s.updSet i g).mode = s.mode := rfl
@[simp] theorem State.updSet_straps (s : State) (i : SetSlot) (g : SetRec → SetRec) : (s.updSet i g).straps = s.straps := rfl
@[simp] theorem State.updSet_curves (s : State) (i : SetSlot) (g : SetRec → SetRec) : (s.updSet i g).curves = s.curves := rfl
@[simp] theorem State.updSet_feeders (s : State) (i : SetSlot) (g : SetRec → SetRec) : (s.updSet i g).feeders = s.feeders := rfl
@[simp] theorem State.updSet_queue (s : State) (i : SetSlot) (g : SetRec → SetRec) : (s.updSet i g).queue = s.queue := rfl
@[simp] theorem State.updSet_params (s : State) (i : SetSlot) (g : SetRec → SetRec) : (s.updSet i g).params = s.params := rfl
@[simp] theorem State.updSet_lastOutcome (s : State) (i : SetSlot) (g : SetRec → SetRec) : (s.updSet i g).lastOutcome = s.lastOutcome := rfl
@[simp] theorem State.updSet_positions (s : State) (i : SetSlot) (g : SetRec → SetRec) : (s.updSet i g).positions = s.positions := rfl
@[simp] theorem State.updSet_suppliers (s : State) (i : SetSlot) (g : SetRec → SetRec) : (s.updSet i g).suppliers = s.suppliers := rfl
@[simp] theorem State.updSet_accounts (s : State) (i : SetSlot) (g : SetRec → SetRec) : (s.updSet i g).accounts = s.accounts := rfl
@[simp] theorem State.updSet_tariff (s : State) (i : SetSlot) (g : SetRec → SetRec) : (s.updSet i g).tariff = s.tariff := rfl
@[simp] theorem State.updSet_result (s : State) (i : SetSlot) (g : SetRec → SetRec) : (s.updSet i g).result = s.result := rfl
@[simp] theorem State.updSet_flags (s : State) (i : SetSlot) (g : SetRec → SetRec) : (s.updSet i g).flags = s.flags := rfl
@[simp] theorem State.updSet_mask (s : State) (i : SetSlot) (g : SetRec → SetRec) : (s.updSet i g).mask = s.mask := rfl
@[simp] theorem State.updSet_snapshot (s : State) (i : SetSlot) (g : SetRec → SetRec) : (s.updSet i g).snapshot = s.snapshot := rfl
@[simp] theorem State.updSet_sdo (s : State) (i : SetSlot) (g : SetRec → SetRec) : (s.updSet i g).sdo = s.sdo := rfl
@[simp] theorem State.updSet_staging (s : State) (i : SetSlot) (g : SetRec → SetRec) : (s.updSet i g).staging = s.staging := rfl
@[simp] theorem State.updSet_transfer (s : State) (i : SetSlot) (g : SetRec → SetRec) : (s.updSet i g).transfer = s.transfer := rfl
@[simp] theorem State.updSet_pins (s : State) (i : SetSlot) (g : SetRec → SetRec) : (s.updSet i g).pins = s.pins := rfl
@[simp] theorem State.updSet_pending (s : State) (i : SetSlot) (g : SetRec → SetRec) : (s.updSet i g).pending = s.pending := rfl
@[simp] theorem State.updSet_choices (s : State) (i : SetSlot) (g : SetRec → SetRec) : (s.updSet i g).choices = s.choices := rfl

@[simp] theorem State.putFeeder_uptime (s : State) (ch : Channel) (f : Feeder) : (s.putFeeder ch f).uptime = s.uptime := rfl
@[simp] theorem State.putFeeder_clock (s : State) (ch : Channel) (f : Feeder) : (s.putFeeder ch f).clock = s.clock := rfl
@[simp] theorem State.putFeeder_mode (s : State) (ch : Channel) (f : Feeder) : (s.putFeeder ch f).mode = s.mode := rfl
@[simp] theorem State.putFeeder_straps (s : State) (ch : Channel) (f : Feeder) : (s.putFeeder ch f).straps = s.straps := rfl
@[simp] theorem State.putFeeder_sets (s : State) (ch : Channel) (f : Feeder) : (s.putFeeder ch f).sets = s.sets := rfl
@[simp] theorem State.putFeeder_curves (s : State) (ch : Channel) (f : Feeder) : (s.putFeeder ch f).curves = s.curves := rfl
@[simp] theorem State.putFeeder_queue (s : State) (ch : Channel) (f : Feeder) : (s.putFeeder ch f).queue = s.queue := rfl
@[simp] theorem State.putFeeder_params (s : State) (ch : Channel) (f : Feeder) : (s.putFeeder ch f).params = s.params := rfl
@[simp] theorem State.putFeeder_lastOutcome (s : State) (ch : Channel) (f : Feeder) : (s.putFeeder ch f).lastOutcome = s.lastOutcome := rfl
@[simp] theorem State.putFeeder_positions (s : State) (ch : Channel) (f : Feeder) : (s.putFeeder ch f).positions = s.positions := rfl
@[simp] theorem State.putFeeder_suppliers (s : State) (ch : Channel) (f : Feeder) : (s.putFeeder ch f).suppliers = s.suppliers := rfl
@[simp] theorem State.putFeeder_accounts (s : State) (ch : Channel) (f : Feeder) : (s.putFeeder ch f).accounts = s.accounts := rfl
@[simp] theorem State.putFeeder_tariff (s : State) (ch : Channel) (f : Feeder) : (s.putFeeder ch f).tariff = s.tariff := rfl
@[simp] theorem State.putFeeder_result (s : State) (ch : Channel) (f : Feeder) : (s.putFeeder ch f).result = s.result := rfl
@[simp] theorem State.putFeeder_flags (s : State) (ch : Channel) (f : Feeder) : (s.putFeeder ch f).flags = s.flags := rfl
@[simp] theorem State.putFeeder_mask (s : State) (ch : Channel) (f : Feeder) : (s.putFeeder ch f).mask = s.mask := rfl
@[simp] theorem State.putFeeder_snapshot (s : State) (ch : Channel) (f : Feeder) : (s.putFeeder ch f).snapshot = s.snapshot := rfl
@[simp] theorem State.putFeeder_sdo (s : State) (ch : Channel) (f : Feeder) : (s.putFeeder ch f).sdo = s.sdo := rfl
@[simp] theorem State.putFeeder_staging (s : State) (ch : Channel) (f : Feeder) : (s.putFeeder ch f).staging = s.staging := rfl
@[simp] theorem State.putFeeder_transfer (s : State) (ch : Channel) (f : Feeder) : (s.putFeeder ch f).transfer = s.transfer := rfl
@[simp] theorem State.putFeeder_pins (s : State) (ch : Channel) (f : Feeder) : (s.putFeeder ch f).pins = s.pins := rfl
@[simp] theorem State.putFeeder_pending (s : State) (ch : Channel) (f : Feeder) : (s.putFeeder ch f).pending = s.pending := rfl
@[simp] theorem State.putFeeder_choices (s : State) (ch : Channel) (f : Feeder) : (s.putFeeder ch f).choices = s.choices := rfl

@[simp] theorem State.putAccount_uptime (s : State) (a : AccountSlot) (r : Option Account) : (s.putAccount a r).uptime = s.uptime := rfl
@[simp] theorem State.putAccount_clock (s : State) (a : AccountSlot) (r : Option Account) : (s.putAccount a r).clock = s.clock := rfl
@[simp] theorem State.putAccount_mode (s : State) (a : AccountSlot) (r : Option Account) : (s.putAccount a r).mode = s.mode := rfl
@[simp] theorem State.putAccount_straps (s : State) (a : AccountSlot) (r : Option Account) : (s.putAccount a r).straps = s.straps := rfl
@[simp] theorem State.putAccount_sets (s : State) (a : AccountSlot) (r : Option Account) : (s.putAccount a r).sets = s.sets := rfl
@[simp] theorem State.putAccount_curves (s : State) (a : AccountSlot) (r : Option Account) : (s.putAccount a r).curves = s.curves := rfl
@[simp] theorem State.putAccount_feeders (s : State) (a : AccountSlot) (r : Option Account) : (s.putAccount a r).feeders = s.feeders := rfl
@[simp] theorem State.putAccount_queue (s : State) (a : AccountSlot) (r : Option Account) : (s.putAccount a r).queue = s.queue := rfl
@[simp] theorem State.putAccount_params (s : State) (a : AccountSlot) (r : Option Account) : (s.putAccount a r).params = s.params := rfl
@[simp] theorem State.putAccount_lastOutcome (s : State) (a : AccountSlot) (r : Option Account) : (s.putAccount a r).lastOutcome = s.lastOutcome := rfl
@[simp] theorem State.putAccount_positions (s : State) (a : AccountSlot) (r : Option Account) : (s.putAccount a r).positions = s.positions := rfl
@[simp] theorem State.putAccount_suppliers (s : State) (a : AccountSlot) (r : Option Account) : (s.putAccount a r).suppliers = s.suppliers := rfl
@[simp] theorem State.putAccount_tariff (s : State) (a : AccountSlot) (r : Option Account) : (s.putAccount a r).tariff = s.tariff := rfl
@[simp] theorem State.putAccount_result (s : State) (a : AccountSlot) (r : Option Account) : (s.putAccount a r).result = s.result := rfl
@[simp] theorem State.putAccount_flags (s : State) (a : AccountSlot) (r : Option Account) : (s.putAccount a r).flags = s.flags := rfl
@[simp] theorem State.putAccount_mask (s : State) (a : AccountSlot) (r : Option Account) : (s.putAccount a r).mask = s.mask := rfl
@[simp] theorem State.putAccount_snapshot (s : State) (a : AccountSlot) (r : Option Account) : (s.putAccount a r).snapshot = s.snapshot := rfl
@[simp] theorem State.putAccount_sdo (s : State) (a : AccountSlot) (r : Option Account) : (s.putAccount a r).sdo = s.sdo := rfl
@[simp] theorem State.putAccount_staging (s : State) (a : AccountSlot) (r : Option Account) : (s.putAccount a r).staging = s.staging := rfl
@[simp] theorem State.putAccount_transfer (s : State) (a : AccountSlot) (r : Option Account) : (s.putAccount a r).transfer = s.transfer := rfl
@[simp] theorem State.putAccount_pins (s : State) (a : AccountSlot) (r : Option Account) : (s.putAccount a r).pins = s.pins := rfl
@[simp] theorem State.putAccount_pending (s : State) (a : AccountSlot) (r : Option Account) : (s.putAccount a r).pending = s.pending := rfl
@[simp] theorem State.putAccount_choices (s : State) (a : AccountSlot) (r : Option Account) : (s.putAccount a r).choices = s.choices := rfl

@[simp] theorem State.putPosition_uptime (s : State) (p : PositionNo) (r : Position) : (s.putPosition p r).uptime = s.uptime := rfl
@[simp] theorem State.putPosition_clock (s : State) (p : PositionNo) (r : Position) : (s.putPosition p r).clock = s.clock := rfl
@[simp] theorem State.putPosition_mode (s : State) (p : PositionNo) (r : Position) : (s.putPosition p r).mode = s.mode := rfl
@[simp] theorem State.putPosition_straps (s : State) (p : PositionNo) (r : Position) : (s.putPosition p r).straps = s.straps := rfl
@[simp] theorem State.putPosition_sets (s : State) (p : PositionNo) (r : Position) : (s.putPosition p r).sets = s.sets := rfl
@[simp] theorem State.putPosition_curves (s : State) (p : PositionNo) (r : Position) : (s.putPosition p r).curves = s.curves := rfl
@[simp] theorem State.putPosition_feeders (s : State) (p : PositionNo) (r : Position) : (s.putPosition p r).feeders = s.feeders := rfl
@[simp] theorem State.putPosition_queue (s : State) (p : PositionNo) (r : Position) : (s.putPosition p r).queue = s.queue := rfl
@[simp] theorem State.putPosition_params (s : State) (p : PositionNo) (r : Position) : (s.putPosition p r).params = s.params := rfl
@[simp] theorem State.putPosition_lastOutcome (s : State) (p : PositionNo) (r : Position) : (s.putPosition p r).lastOutcome = s.lastOutcome := rfl
@[simp] theorem State.putPosition_suppliers (s : State) (p : PositionNo) (r : Position) : (s.putPosition p r).suppliers = s.suppliers := rfl
@[simp] theorem State.putPosition_accounts (s : State) (p : PositionNo) (r : Position) : (s.putPosition p r).accounts = s.accounts := rfl
@[simp] theorem State.putPosition_tariff (s : State) (p : PositionNo) (r : Position) : (s.putPosition p r).tariff = s.tariff := rfl
@[simp] theorem State.putPosition_result (s : State) (p : PositionNo) (r : Position) : (s.putPosition p r).result = s.result := rfl
@[simp] theorem State.putPosition_flags (s : State) (p : PositionNo) (r : Position) : (s.putPosition p r).flags = s.flags := rfl
@[simp] theorem State.putPosition_mask (s : State) (p : PositionNo) (r : Position) : (s.putPosition p r).mask = s.mask := rfl
@[simp] theorem State.putPosition_snapshot (s : State) (p : PositionNo) (r : Position) : (s.putPosition p r).snapshot = s.snapshot := rfl
@[simp] theorem State.putPosition_sdo (s : State) (p : PositionNo) (r : Position) : (s.putPosition p r).sdo = s.sdo := rfl
@[simp] theorem State.putPosition_staging (s : State) (p : PositionNo) (r : Position) : (s.putPosition p r).staging = s.staging := rfl
@[simp] theorem State.putPosition_transfer (s : State) (p : PositionNo) (r : Position) : (s.putPosition p r).transfer = s.transfer := rfl
@[simp] theorem State.putPosition_pins (s : State) (p : PositionNo) (r : Position) : (s.putPosition p r).pins = s.pins := rfl
@[simp] theorem State.putPosition_pending (s : State) (p : PositionNo) (r : Position) : (s.putPosition p r).pending = s.pending := rfl
@[simp] theorem State.putPosition_choices (s : State) (p : PositionNo) (r : Position) : (s.putPosition p r).choices = s.choices := rfl

@[simp] theorem State.putSupplier_uptime (s : State) (n : SupplierNo) (r : Supplier) : (s.putSupplier n r).uptime = s.uptime := rfl
@[simp] theorem State.putSupplier_clock (s : State) (n : SupplierNo) (r : Supplier) : (s.putSupplier n r).clock = s.clock := rfl
@[simp] theorem State.putSupplier_mode (s : State) (n : SupplierNo) (r : Supplier) : (s.putSupplier n r).mode = s.mode := rfl
@[simp] theorem State.putSupplier_straps (s : State) (n : SupplierNo) (r : Supplier) : (s.putSupplier n r).straps = s.straps := rfl
@[simp] theorem State.putSupplier_sets (s : State) (n : SupplierNo) (r : Supplier) : (s.putSupplier n r).sets = s.sets := rfl
@[simp] theorem State.putSupplier_curves (s : State) (n : SupplierNo) (r : Supplier) : (s.putSupplier n r).curves = s.curves := rfl
@[simp] theorem State.putSupplier_feeders (s : State) (n : SupplierNo) (r : Supplier) : (s.putSupplier n r).feeders = s.feeders := rfl
@[simp] theorem State.putSupplier_queue (s : State) (n : SupplierNo) (r : Supplier) : (s.putSupplier n r).queue = s.queue := rfl
@[simp] theorem State.putSupplier_params (s : State) (n : SupplierNo) (r : Supplier) : (s.putSupplier n r).params = s.params := rfl
@[simp] theorem State.putSupplier_lastOutcome (s : State) (n : SupplierNo) (r : Supplier) : (s.putSupplier n r).lastOutcome = s.lastOutcome := rfl
@[simp] theorem State.putSupplier_positions (s : State) (n : SupplierNo) (r : Supplier) : (s.putSupplier n r).positions = s.positions := rfl
@[simp] theorem State.putSupplier_accounts (s : State) (n : SupplierNo) (r : Supplier) : (s.putSupplier n r).accounts = s.accounts := rfl
@[simp] theorem State.putSupplier_tariff (s : State) (n : SupplierNo) (r : Supplier) : (s.putSupplier n r).tariff = s.tariff := rfl
@[simp] theorem State.putSupplier_result (s : State) (n : SupplierNo) (r : Supplier) : (s.putSupplier n r).result = s.result := rfl
@[simp] theorem State.putSupplier_flags (s : State) (n : SupplierNo) (r : Supplier) : (s.putSupplier n r).flags = s.flags := rfl
@[simp] theorem State.putSupplier_mask (s : State) (n : SupplierNo) (r : Supplier) : (s.putSupplier n r).mask = s.mask := rfl
@[simp] theorem State.putSupplier_snapshot (s : State) (n : SupplierNo) (r : Supplier) : (s.putSupplier n r).snapshot = s.snapshot := rfl
@[simp] theorem State.putSupplier_sdo (s : State) (n : SupplierNo) (r : Supplier) : (s.putSupplier n r).sdo = s.sdo := rfl
@[simp] theorem State.putSupplier_staging (s : State) (n : SupplierNo) (r : Supplier) : (s.putSupplier n r).staging = s.staging := rfl
@[simp] theorem State.putSupplier_transfer (s : State) (n : SupplierNo) (r : Supplier) : (s.putSupplier n r).transfer = s.transfer := rfl
@[simp] theorem State.putSupplier_pins (s : State) (n : SupplierNo) (r : Supplier) : (s.putSupplier n r).pins = s.pins := rfl
@[simp] theorem State.putSupplier_pending (s : State) (n : SupplierNo) (r : Supplier) : (s.putSupplier n r).pending = s.pending := rfl
@[simp] theorem State.putSupplier_choices (s : State) (n : SupplierNo) (r : Supplier) : (s.putSupplier n r).choices = s.choices := rfl

@[simp] theorem State.rewatch_uptime (s : State) (ch : Channel) (ms : Nat) : (s.rewatch ch ms).uptime = s.uptime := rfl
@[simp] theorem State.rewatch_clock (s : State) (ch : Channel) (ms : Nat) : (s.rewatch ch ms).clock = s.clock := rfl
@[simp] theorem State.rewatch_mode (s : State) (ch : Channel) (ms : Nat) : (s.rewatch ch ms).mode = s.mode := rfl
@[simp] theorem State.rewatch_straps (s : State) (ch : Channel) (ms : Nat) : (s.rewatch ch ms).straps = s.straps := rfl
@[simp] theorem State.rewatch_sets (s : State) (ch : Channel) (ms : Nat) : (s.rewatch ch ms).sets = s.sets := rfl
@[simp] theorem State.rewatch_curves (s : State) (ch : Channel) (ms : Nat) : (s.rewatch ch ms).curves = s.curves := rfl
@[simp] theorem State.rewatch_queue (s : State) (ch : Channel) (ms : Nat) : (s.rewatch ch ms).queue = s.queue := rfl
@[simp] theorem State.rewatch_params (s : State) (ch : Channel) (ms : Nat) : (s.rewatch ch ms).params = s.params := rfl
@[simp] theorem State.rewatch_lastOutcome (s : State) (ch : Channel) (ms : Nat) : (s.rewatch ch ms).lastOutcome = s.lastOutcome := rfl
@[simp] theorem State.rewatch_positions (s : State) (ch : Channel) (ms : Nat) : (s.rewatch ch ms).positions = s.positions := rfl
@[simp] theorem State.rewatch_suppliers (s : State) (ch : Channel) (ms : Nat) : (s.rewatch ch ms).suppliers = s.suppliers := rfl
@[simp] theorem State.rewatch_accounts (s : State) (ch : Channel) (ms : Nat) : (s.rewatch ch ms).accounts = s.accounts := rfl
@[simp] theorem State.rewatch_tariff (s : State) (ch : Channel) (ms : Nat) : (s.rewatch ch ms).tariff = s.tariff := rfl
@[simp] theorem State.rewatch_result (s : State) (ch : Channel) (ms : Nat) : (s.rewatch ch ms).result = s.result := rfl
@[simp] theorem State.rewatch_flags (s : State) (ch : Channel) (ms : Nat) : (s.rewatch ch ms).flags = s.flags := rfl
@[simp] theorem State.rewatch_mask (s : State) (ch : Channel) (ms : Nat) : (s.rewatch ch ms).mask = s.mask := rfl
@[simp] theorem State.rewatch_snapshot (s : State) (ch : Channel) (ms : Nat) : (s.rewatch ch ms).snapshot = s.snapshot := rfl
@[simp] theorem State.rewatch_sdo (s : State) (ch : Channel) (ms : Nat) : (s.rewatch ch ms).sdo = s.sdo := rfl
@[simp] theorem State.rewatch_staging (s : State) (ch : Channel) (ms : Nat) : (s.rewatch ch ms).staging = s.staging := rfl
@[simp] theorem State.rewatch_transfer (s : State) (ch : Channel) (ms : Nat) : (s.rewatch ch ms).transfer = s.transfer := rfl
@[simp] theorem State.rewatch_pins (s : State) (ch : Channel) (ms : Nat) : (s.rewatch ch ms).pins = s.pins := rfl
@[simp] theorem State.rewatch_pending (s : State) (ch : Channel) (ms : Nat) : (s.rewatch ch ms).pending = s.pending := rfl
@[simp] theorem State.rewatch_choices (s : State) (ch : Channel) (ms : Nat) : (s.rewatch ch ms).choices = s.choices := rfl

@[simp] theorem State.driveSide_uptime (s : State) (ch : Channel) (d : Side) (closed : Bool) : (s.driveSide ch d closed).uptime = s.uptime := rfl
@[simp] theorem State.driveSide_clock (s : State) (ch : Channel) (d : Side) (closed : Bool) : (s.driveSide ch d closed).clock = s.clock := rfl
@[simp] theorem State.driveSide_mode (s : State) (ch : Channel) (d : Side) (closed : Bool) : (s.driveSide ch d closed).mode = s.mode := rfl
@[simp] theorem State.driveSide_straps (s : State) (ch : Channel) (d : Side) (closed : Bool) : (s.driveSide ch d closed).straps = s.straps := rfl
@[simp] theorem State.driveSide_sets (s : State) (ch : Channel) (d : Side) (closed : Bool) : (s.driveSide ch d closed).sets = s.sets := rfl
@[simp] theorem State.driveSide_curves (s : State) (ch : Channel) (d : Side) (closed : Bool) : (s.driveSide ch d closed).curves = s.curves := rfl
@[simp] theorem State.driveSide_queue (s : State) (ch : Channel) (d : Side) (closed : Bool) : (s.driveSide ch d closed).queue = s.queue := rfl
@[simp] theorem State.driveSide_params (s : State) (ch : Channel) (d : Side) (closed : Bool) : (s.driveSide ch d closed).params = s.params := rfl
@[simp] theorem State.driveSide_lastOutcome (s : State) (ch : Channel) (d : Side) (closed : Bool) : (s.driveSide ch d closed).lastOutcome = s.lastOutcome := rfl
@[simp] theorem State.driveSide_positions (s : State) (ch : Channel) (d : Side) (closed : Bool) : (s.driveSide ch d closed).positions = s.positions := rfl
@[simp] theorem State.driveSide_suppliers (s : State) (ch : Channel) (d : Side) (closed : Bool) : (s.driveSide ch d closed).suppliers = s.suppliers := rfl
@[simp] theorem State.driveSide_accounts (s : State) (ch : Channel) (d : Side) (closed : Bool) : (s.driveSide ch d closed).accounts = s.accounts := rfl
@[simp] theorem State.driveSide_tariff (s : State) (ch : Channel) (d : Side) (closed : Bool) : (s.driveSide ch d closed).tariff = s.tariff := rfl
@[simp] theorem State.driveSide_result (s : State) (ch : Channel) (d : Side) (closed : Bool) : (s.driveSide ch d closed).result = s.result := rfl
@[simp] theorem State.driveSide_flags (s : State) (ch : Channel) (d : Side) (closed : Bool) : (s.driveSide ch d closed).flags = s.flags := rfl
@[simp] theorem State.driveSide_mask (s : State) (ch : Channel) (d : Side) (closed : Bool) : (s.driveSide ch d closed).mask = s.mask := rfl
@[simp] theorem State.driveSide_snapshot (s : State) (ch : Channel) (d : Side) (closed : Bool) : (s.driveSide ch d closed).snapshot = s.snapshot := rfl
@[simp] theorem State.driveSide_sdo (s : State) (ch : Channel) (d : Side) (closed : Bool) : (s.driveSide ch d closed).sdo = s.sdo := rfl
@[simp] theorem State.driveSide_staging (s : State) (ch : Channel) (d : Side) (closed : Bool) : (s.driveSide ch d closed).staging = s.staging := rfl
@[simp] theorem State.driveSide_transfer (s : State) (ch : Channel) (d : Side) (closed : Bool) : (s.driveSide ch d closed).transfer = s.transfer := rfl
@[simp] theorem State.driveSide_pins (s : State) (ch : Channel) (d : Side) (closed : Bool) : (s.driveSide ch d closed).pins = s.pins := rfl
@[simp] theorem State.driveSide_pending (s : State) (ch : Channel) (d : Side) (closed : Bool) : (s.driveSide ch d closed).pending = s.pending := rfl
@[simp] theorem State.driveSide_choices (s : State) (ch : Channel) (d : Side) (closed : Bool) : (s.driveSide ch d closed).choices = s.choices := rfl

@[simp] theorem State.driveOpen_uptime (s : State) (ch : Channel) : (s.driveOpen ch).uptime = s.uptime := rfl
@[simp] theorem State.driveOpen_clock (s : State) (ch : Channel) : (s.driveOpen ch).clock = s.clock := rfl
@[simp] theorem State.driveOpen_mode (s : State) (ch : Channel) : (s.driveOpen ch).mode = s.mode := rfl
@[simp] theorem State.driveOpen_straps (s : State) (ch : Channel) : (s.driveOpen ch).straps = s.straps := rfl
@[simp] theorem State.driveOpen_sets (s : State) (ch : Channel) : (s.driveOpen ch).sets = s.sets := rfl
@[simp] theorem State.driveOpen_curves (s : State) (ch : Channel) : (s.driveOpen ch).curves = s.curves := rfl
@[simp] theorem State.driveOpen_queue (s : State) (ch : Channel) : (s.driveOpen ch).queue = s.queue := rfl
@[simp] theorem State.driveOpen_params (s : State) (ch : Channel) : (s.driveOpen ch).params = s.params := rfl
@[simp] theorem State.driveOpen_lastOutcome (s : State) (ch : Channel) : (s.driveOpen ch).lastOutcome = s.lastOutcome := rfl
@[simp] theorem State.driveOpen_positions (s : State) (ch : Channel) : (s.driveOpen ch).positions = s.positions := rfl
@[simp] theorem State.driveOpen_suppliers (s : State) (ch : Channel) : (s.driveOpen ch).suppliers = s.suppliers := rfl
@[simp] theorem State.driveOpen_accounts (s : State) (ch : Channel) : (s.driveOpen ch).accounts = s.accounts := rfl
@[simp] theorem State.driveOpen_tariff (s : State) (ch : Channel) : (s.driveOpen ch).tariff = s.tariff := rfl
@[simp] theorem State.driveOpen_result (s : State) (ch : Channel) : (s.driveOpen ch).result = s.result := rfl
@[simp] theorem State.driveOpen_flags (s : State) (ch : Channel) : (s.driveOpen ch).flags = s.flags := rfl
@[simp] theorem State.driveOpen_mask (s : State) (ch : Channel) : (s.driveOpen ch).mask = s.mask := rfl
@[simp] theorem State.driveOpen_snapshot (s : State) (ch : Channel) : (s.driveOpen ch).snapshot = s.snapshot := rfl
@[simp] theorem State.driveOpen_sdo (s : State) (ch : Channel) : (s.driveOpen ch).sdo = s.sdo := rfl
@[simp] theorem State.driveOpen_staging (s : State) (ch : Channel) : (s.driveOpen ch).staging = s.staging := rfl
@[simp] theorem State.driveOpen_transfer (s : State) (ch : Channel) : (s.driveOpen ch).transfer = s.transfer := rfl
@[simp] theorem State.driveOpen_pins (s : State) (ch : Channel) : (s.driveOpen ch).pins = s.pins := rfl
@[simp] theorem State.driveOpen_pending (s : State) (ch : Channel) : (s.driveOpen ch).pending = s.pending := rfl
@[simp] theorem State.driveOpen_choices (s : State) (ch : Channel) : (s.driveOpen ch).choices = s.choices := rfl

@[simp] theorem State.recordLast_uptime (s : State) (ch : Channel) (target : Side) (o : TransferOutcome) (why : Reason) : (s.recordLast ch target o why).uptime = s.uptime := rfl
@[simp] theorem State.recordLast_clock (s : State) (ch : Channel) (target : Side) (o : TransferOutcome) (why : Reason) : (s.recordLast ch target o why).clock = s.clock := rfl
@[simp] theorem State.recordLast_mode (s : State) (ch : Channel) (target : Side) (o : TransferOutcome) (why : Reason) : (s.recordLast ch target o why).mode = s.mode := rfl
@[simp] theorem State.recordLast_straps (s : State) (ch : Channel) (target : Side) (o : TransferOutcome) (why : Reason) : (s.recordLast ch target o why).straps = s.straps := rfl
@[simp] theorem State.recordLast_sets (s : State) (ch : Channel) (target : Side) (o : TransferOutcome) (why : Reason) : (s.recordLast ch target o why).sets = s.sets := rfl
@[simp] theorem State.recordLast_curves (s : State) (ch : Channel) (target : Side) (o : TransferOutcome) (why : Reason) : (s.recordLast ch target o why).curves = s.curves := rfl
@[simp] theorem State.recordLast_queue (s : State) (ch : Channel) (target : Side) (o : TransferOutcome) (why : Reason) : (s.recordLast ch target o why).queue = s.queue := rfl
@[simp] theorem State.recordLast_params (s : State) (ch : Channel) (target : Side) (o : TransferOutcome) (why : Reason) : (s.recordLast ch target o why).params = s.params := rfl
@[simp] theorem State.recordLast_lastOutcome (s : State) (ch : Channel) (target : Side) (o : TransferOutcome) (why : Reason) : (s.recordLast ch target o why).lastOutcome = s.lastOutcome := rfl
@[simp] theorem State.recordLast_positions (s : State) (ch : Channel) (target : Side) (o : TransferOutcome) (why : Reason) : (s.recordLast ch target o why).positions = s.positions := rfl
@[simp] theorem State.recordLast_suppliers (s : State) (ch : Channel) (target : Side) (o : TransferOutcome) (why : Reason) : (s.recordLast ch target o why).suppliers = s.suppliers := rfl
@[simp] theorem State.recordLast_accounts (s : State) (ch : Channel) (target : Side) (o : TransferOutcome) (why : Reason) : (s.recordLast ch target o why).accounts = s.accounts := rfl
@[simp] theorem State.recordLast_tariff (s : State) (ch : Channel) (target : Side) (o : TransferOutcome) (why : Reason) : (s.recordLast ch target o why).tariff = s.tariff := rfl
@[simp] theorem State.recordLast_result (s : State) (ch : Channel) (target : Side) (o : TransferOutcome) (why : Reason) : (s.recordLast ch target o why).result = s.result := rfl
@[simp] theorem State.recordLast_flags (s : State) (ch : Channel) (target : Side) (o : TransferOutcome) (why : Reason) : (s.recordLast ch target o why).flags = s.flags := rfl
@[simp] theorem State.recordLast_mask (s : State) (ch : Channel) (target : Side) (o : TransferOutcome) (why : Reason) : (s.recordLast ch target o why).mask = s.mask := rfl
@[simp] theorem State.recordLast_snapshot (s : State) (ch : Channel) (target : Side) (o : TransferOutcome) (why : Reason) : (s.recordLast ch target o why).snapshot = s.snapshot := rfl
@[simp] theorem State.recordLast_sdo (s : State) (ch : Channel) (target : Side) (o : TransferOutcome) (why : Reason) : (s.recordLast ch target o why).sdo = s.sdo := rfl
@[simp] theorem State.recordLast_staging (s : State) (ch : Channel) (target : Side) (o : TransferOutcome) (why : Reason) : (s.recordLast ch target o why).staging = s.staging := rfl
@[simp] theorem State.recordLast_transfer (s : State) (ch : Channel) (target : Side) (o : TransferOutcome) (why : Reason) : (s.recordLast ch target o why).transfer = s.transfer := rfl
@[simp] theorem State.recordLast_pins (s : State) (ch : Channel) (target : Side) (o : TransferOutcome) (why : Reason) : (s.recordLast ch target o why).pins = s.pins := rfl
@[simp] theorem State.recordLast_pending (s : State) (ch : Channel) (target : Side) (o : TransferOutcome) (why : Reason) : (s.recordLast ch target o why).pending = s.pending := rfl
@[simp] theorem State.recordLast_choices (s : State) (ch : Channel) (target : Side) (o : TransferOutcome) (why : Reason) : (s.recordLast ch target o why).choices = s.choices := rfl

@[simp] theorem State.beginDead_uptime (s : State) (t : Transfer) : (s.beginDead t).uptime = s.uptime := rfl
@[simp] theorem State.beginDead_clock (s : State) (t : Transfer) : (s.beginDead t).clock = s.clock := rfl
@[simp] theorem State.beginDead_mode (s : State) (t : Transfer) : (s.beginDead t).mode = s.mode := rfl
@[simp] theorem State.beginDead_straps (s : State) (t : Transfer) : (s.beginDead t).straps = s.straps := rfl
@[simp] theorem State.beginDead_sets (s : State) (t : Transfer) : (s.beginDead t).sets = s.sets := rfl
@[simp] theorem State.beginDead_curves (s : State) (t : Transfer) : (s.beginDead t).curves = s.curves := rfl
@[simp] theorem State.beginDead_feeders (s : State) (t : Transfer) : (s.beginDead t).feeders = s.feeders := rfl
@[simp] theorem State.beginDead_queue (s : State) (t : Transfer) : (s.beginDead t).queue = s.queue := rfl
@[simp] theorem State.beginDead_params (s : State) (t : Transfer) : (s.beginDead t).params = s.params := rfl
@[simp] theorem State.beginDead_lastOutcome (s : State) (t : Transfer) : (s.beginDead t).lastOutcome = s.lastOutcome := rfl
@[simp] theorem State.beginDead_positions (s : State) (t : Transfer) : (s.beginDead t).positions = s.positions := rfl
@[simp] theorem State.beginDead_suppliers (s : State) (t : Transfer) : (s.beginDead t).suppliers = s.suppliers := rfl
@[simp] theorem State.beginDead_accounts (s : State) (t : Transfer) : (s.beginDead t).accounts = s.accounts := rfl
@[simp] theorem State.beginDead_tariff (s : State) (t : Transfer) : (s.beginDead t).tariff = s.tariff := rfl
@[simp] theorem State.beginDead_result (s : State) (t : Transfer) : (s.beginDead t).result = s.result := rfl
@[simp] theorem State.beginDead_flags (s : State) (t : Transfer) : (s.beginDead t).flags = s.flags := rfl
@[simp] theorem State.beginDead_mask (s : State) (t : Transfer) : (s.beginDead t).mask = s.mask := rfl
@[simp] theorem State.beginDead_snapshot (s : State) (t : Transfer) : (s.beginDead t).snapshot = s.snapshot := rfl
@[simp] theorem State.beginDead_sdo (s : State) (t : Transfer) : (s.beginDead t).sdo = s.sdo := rfl
@[simp] theorem State.beginDead_staging (s : State) (t : Transfer) : (s.beginDead t).staging = s.staging := rfl
@[simp] theorem State.beginDead_pins (s : State) (t : Transfer) : (s.beginDead t).pins = s.pins := rfl
@[simp] theorem State.beginDead_pending (s : State) (t : Transfer) : (s.beginDead t).pending = s.pending := rfl
@[simp] theorem State.beginDead_choices (s : State) (t : Transfer) : (s.beginDead t).choices = s.choices := rfl

@[simp] theorem State.applyTariff_uptime (s : State) : s.applyTariff.uptime = s.uptime := rfl
@[simp] theorem State.applyTariff_clock (s : State) : s.applyTariff.clock = s.clock := rfl
@[simp] theorem State.applyTariff_mode (s : State) : s.applyTariff.mode = s.mode := rfl
@[simp] theorem State.applyTariff_straps (s : State) : s.applyTariff.straps = s.straps := rfl
@[simp] theorem State.applyTariff_sets (s : State) : s.applyTariff.sets = s.sets := rfl
@[simp] theorem State.applyTariff_curves (s : State) : s.applyTariff.curves = s.curves := rfl
@[simp] theorem State.applyTariff_feeders (s : State) : s.applyTariff.feeders = s.feeders := rfl
@[simp] theorem State.applyTariff_queue (s : State) : s.applyTariff.queue = s.queue := rfl
@[simp] theorem State.applyTariff_params (s : State) : s.applyTariff.params = s.params := rfl
@[simp] theorem State.applyTariff_lastOutcome (s : State) : s.applyTariff.lastOutcome = s.lastOutcome := rfl
@[simp] theorem State.applyTariff_positions (s : State) : s.applyTariff.positions = s.positions := rfl
@[simp] theorem State.applyTariff_suppliers (s : State) : s.applyTariff.suppliers = s.suppliers := rfl
@[simp] theorem State.applyTariff_accounts (s : State) : s.applyTariff.accounts = s.accounts := rfl
@[simp] theorem State.applyTariff_result (s : State) : s.applyTariff.result = s.result := rfl
@[simp] theorem State.applyTariff_flags (s : State) : s.applyTariff.flags = s.flags := rfl
@[simp] theorem State.applyTariff_mask (s : State) : s.applyTariff.mask = s.mask := rfl
@[simp] theorem State.applyTariff_snapshot (s : State) : s.applyTariff.snapshot = s.snapshot := rfl
@[simp] theorem State.applyTariff_sdo (s : State) : s.applyTariff.sdo = s.sdo := rfl
@[simp] theorem State.applyTariff_staging (s : State) : s.applyTariff.staging = s.staging := rfl
@[simp] theorem State.applyTariff_transfer (s : State) : s.applyTariff.transfer = s.transfer := rfl
@[simp] theorem State.applyTariff_pins (s : State) : s.applyTariff.pins = s.pins := rfl
@[simp] theorem State.applyTariff_pending (s : State) : s.applyTariff.pending = s.pending := rfl
@[simp] theorem State.applyTariff_choices (s : State) : s.applyTariff.choices = s.choices := rfl

@[simp] theorem State.setFeedback_uptime (s : State) (ch : Channel) (d : Side) (level : Bool) : (s.setFeedback ch d level).uptime = s.uptime := rfl
@[simp] theorem State.setFeedback_clock (s : State) (ch : Channel) (d : Side) (level : Bool) : (s.setFeedback ch d level).clock = s.clock := rfl
@[simp] theorem State.setFeedback_mode (s : State) (ch : Channel) (d : Side) (level : Bool) : (s.setFeedback ch d level).mode = s.mode := rfl
@[simp] theorem State.setFeedback_straps (s : State) (ch : Channel) (d : Side) (level : Bool) : (s.setFeedback ch d level).straps = s.straps := rfl
@[simp] theorem State.setFeedback_sets (s : State) (ch : Channel) (d : Side) (level : Bool) : (s.setFeedback ch d level).sets = s.sets := rfl
@[simp] theorem State.setFeedback_curves (s : State) (ch : Channel) (d : Side) (level : Bool) : (s.setFeedback ch d level).curves = s.curves := rfl
@[simp] theorem State.setFeedback_feeders (s : State) (ch : Channel) (d : Side) (level : Bool) : (s.setFeedback ch d level).feeders = s.feeders := rfl
@[simp] theorem State.setFeedback_queue (s : State) (ch : Channel) (d : Side) (level : Bool) : (s.setFeedback ch d level).queue = s.queue := rfl
@[simp] theorem State.setFeedback_params (s : State) (ch : Channel) (d : Side) (level : Bool) : (s.setFeedback ch d level).params = s.params := rfl
@[simp] theorem State.setFeedback_lastOutcome (s : State) (ch : Channel) (d : Side) (level : Bool) : (s.setFeedback ch d level).lastOutcome = s.lastOutcome := rfl
@[simp] theorem State.setFeedback_positions (s : State) (ch : Channel) (d : Side) (level : Bool) : (s.setFeedback ch d level).positions = s.positions := rfl
@[simp] theorem State.setFeedback_suppliers (s : State) (ch : Channel) (d : Side) (level : Bool) : (s.setFeedback ch d level).suppliers = s.suppliers := rfl
@[simp] theorem State.setFeedback_accounts (s : State) (ch : Channel) (d : Side) (level : Bool) : (s.setFeedback ch d level).accounts = s.accounts := rfl
@[simp] theorem State.setFeedback_tariff (s : State) (ch : Channel) (d : Side) (level : Bool) : (s.setFeedback ch d level).tariff = s.tariff := rfl
@[simp] theorem State.setFeedback_result (s : State) (ch : Channel) (d : Side) (level : Bool) : (s.setFeedback ch d level).result = s.result := rfl
@[simp] theorem State.setFeedback_flags (s : State) (ch : Channel) (d : Side) (level : Bool) : (s.setFeedback ch d level).flags = s.flags := rfl
@[simp] theorem State.setFeedback_mask (s : State) (ch : Channel) (d : Side) (level : Bool) : (s.setFeedback ch d level).mask = s.mask := rfl
@[simp] theorem State.setFeedback_snapshot (s : State) (ch : Channel) (d : Side) (level : Bool) : (s.setFeedback ch d level).snapshot = s.snapshot := rfl
@[simp] theorem State.setFeedback_sdo (s : State) (ch : Channel) (d : Side) (level : Bool) : (s.setFeedback ch d level).sdo = s.sdo := rfl
@[simp] theorem State.setFeedback_staging (s : State) (ch : Channel) (d : Side) (level : Bool) : (s.setFeedback ch d level).staging = s.staging := rfl
@[simp] theorem State.setFeedback_transfer (s : State) (ch : Channel) (d : Side) (level : Bool) : (s.setFeedback ch d level).transfer = s.transfer := rfl
@[simp] theorem State.setFeedback_pending (s : State) (ch : Channel) (d : Side) (level : Bool) : (s.setFeedback ch d level).pending = s.pending := rfl
@[simp] theorem State.setFeedback_choices (s : State) (ch : Channel) (d : Side) (level : Bool) : (s.setFeedback ch d level).choices = s.choices := rfl

@[simp] theorem State.setNozzle_uptime (s : State) (p : PositionNo) (level : Bool) : (s.setNozzle p level).uptime = s.uptime := rfl
@[simp] theorem State.setNozzle_clock (s : State) (p : PositionNo) (level : Bool) : (s.setNozzle p level).clock = s.clock := rfl
@[simp] theorem State.setNozzle_mode (s : State) (p : PositionNo) (level : Bool) : (s.setNozzle p level).mode = s.mode := rfl
@[simp] theorem State.setNozzle_straps (s : State) (p : PositionNo) (level : Bool) : (s.setNozzle p level).straps = s.straps := rfl
@[simp] theorem State.setNozzle_sets (s : State) (p : PositionNo) (level : Bool) : (s.setNozzle p level).sets = s.sets := rfl
@[simp] theorem State.setNozzle_curves (s : State) (p : PositionNo) (level : Bool) : (s.setNozzle p level).curves = s.curves := rfl
@[simp] theorem State.setNozzle_feeders (s : State) (p : PositionNo) (level : Bool) : (s.setNozzle p level).feeders = s.feeders := rfl
@[simp] theorem State.setNozzle_queue (s : State) (p : PositionNo) (level : Bool) : (s.setNozzle p level).queue = s.queue := rfl
@[simp] theorem State.setNozzle_params (s : State) (p : PositionNo) (level : Bool) : (s.setNozzle p level).params = s.params := rfl
@[simp] theorem State.setNozzle_lastOutcome (s : State) (p : PositionNo) (level : Bool) : (s.setNozzle p level).lastOutcome = s.lastOutcome := rfl
@[simp] theorem State.setNozzle_positions (s : State) (p : PositionNo) (level : Bool) : (s.setNozzle p level).positions = s.positions := rfl
@[simp] theorem State.setNozzle_suppliers (s : State) (p : PositionNo) (level : Bool) : (s.setNozzle p level).suppliers = s.suppliers := rfl
@[simp] theorem State.setNozzle_accounts (s : State) (p : PositionNo) (level : Bool) : (s.setNozzle p level).accounts = s.accounts := rfl
@[simp] theorem State.setNozzle_tariff (s : State) (p : PositionNo) (level : Bool) : (s.setNozzle p level).tariff = s.tariff := rfl
@[simp] theorem State.setNozzle_result (s : State) (p : PositionNo) (level : Bool) : (s.setNozzle p level).result = s.result := rfl
@[simp] theorem State.setNozzle_flags (s : State) (p : PositionNo) (level : Bool) : (s.setNozzle p level).flags = s.flags := rfl
@[simp] theorem State.setNozzle_mask (s : State) (p : PositionNo) (level : Bool) : (s.setNozzle p level).mask = s.mask := rfl
@[simp] theorem State.setNozzle_snapshot (s : State) (p : PositionNo) (level : Bool) : (s.setNozzle p level).snapshot = s.snapshot := rfl
@[simp] theorem State.setNozzle_sdo (s : State) (p : PositionNo) (level : Bool) : (s.setNozzle p level).sdo = s.sdo := rfl
@[simp] theorem State.setNozzle_staging (s : State) (p : PositionNo) (level : Bool) : (s.setNozzle p level).staging = s.staging := rfl
@[simp] theorem State.setNozzle_transfer (s : State) (p : PositionNo) (level : Bool) : (s.setNozzle p level).transfer = s.transfer := rfl
@[simp] theorem State.setNozzle_pending (s : State) (p : PositionNo) (level : Bool) : (s.setNozzle p level).pending = s.pending := rfl
@[simp] theorem State.setNozzle_choices (s : State) (p : PositionNo) (level : Bool) : (s.setNozzle p level).choices = s.choices := rfl

@[simp] theorem State.resetPort_uptime (s : State) : s.resetPort.uptime = s.uptime := rfl
@[simp] theorem State.resetPort_clock (s : State) : s.resetPort.clock = s.clock := rfl
@[simp] theorem State.resetPort_mode (s : State) : s.resetPort.mode = s.mode := rfl
@[simp] theorem State.resetPort_straps (s : State) : s.resetPort.straps = s.straps := rfl
@[simp] theorem State.resetPort_sets (s : State) : s.resetPort.sets = s.sets := rfl
@[simp] theorem State.resetPort_curves (s : State) : s.resetPort.curves = s.curves := rfl
@[simp] theorem State.resetPort_feeders (s : State) : s.resetPort.feeders = s.feeders := rfl
@[simp] theorem State.resetPort_queue (s : State) : s.resetPort.queue = s.queue := rfl
@[simp] theorem State.resetPort_params (s : State) : s.resetPort.params = s.params := rfl
@[simp] theorem State.resetPort_lastOutcome (s : State) : s.resetPort.lastOutcome = s.lastOutcome := rfl
@[simp] theorem State.resetPort_positions (s : State) : s.resetPort.positions = s.positions := rfl
@[simp] theorem State.resetPort_suppliers (s : State) : s.resetPort.suppliers = s.suppliers := rfl
@[simp] theorem State.resetPort_accounts (s : State) : s.resetPort.accounts = s.accounts := rfl
@[simp] theorem State.resetPort_tariff (s : State) : s.resetPort.tariff = s.tariff := rfl
@[simp] theorem State.resetPort_sdo (s : State) : s.resetPort.sdo = s.sdo := rfl
@[simp] theorem State.resetPort_transfer (s : State) : s.resetPort.transfer = s.transfer := rfl
@[simp] theorem State.resetPort_pins (s : State) : s.resetPort.pins = s.pins := rfl
@[simp] theorem State.resetPort_pending (s : State) : s.resetPort.pending = s.pending := rfl
@[simp] theorem State.resetPort_choices (s : State) : s.resetPort.choices = s.choices := rfl

/-! ## Reading back -/

@[simp] theorem PerSide.get_set_self {α : Type} (p : PerSide α) (d : Side) (x : α) : (p.set d x).get d = x := by
  cases d <;> rfl

@[simp] theorem PerSide.get_set_other {α : Type} (p : PerSide α) (d : Side) (x : α) :
    (p.set d x).get d.other = p.get d.other := by
  cases d <;> rfl

@[simp] theorem Side.other_other (d : Side) : d.other.other = d := by cases d <;> rfl

@[simp] theorem State.set?_putSet_self (s : State) (i : SetSlot) (r : Option SetRec) :
    (s.putSet i r).set? i = r := by
  simp [State.set?, State.putSet]

theorem State.set?_putSet_ne (s : State) {i j : SetSlot} (r : Option SetRec) (h : j ≠ i) :
    (s.putSet i r).set? j = s.set? j := by
  have : i.val ≠ j.val := fun e => h (Fin.ext e.symm)
  simp [State.set?, State.putSet, this]

@[simp] theorem State.feeder_putFeeder_self (s : State) (ch : Channel) (f : Feeder) :
    (s.putFeeder ch f).feeder ch = f := by
  simp [State.feeder, State.putFeeder]

theorem State.feeder_putFeeder_ne (s : State) {ch c : Channel} (f : Feeder) (h : c ≠ ch) :
    (s.putFeeder ch f).feeder c = s.feeder c := by
  have : ch.val ≠ c.val := fun e => h (Fin.ext e.symm)
  simp [State.feeder, State.putFeeder, this]

@[simp] theorem State.account?_putAccount_self (s : State) (a : AccountSlot) (r : Option Account) :
    (s.putAccount a r).account? a = r := by
  simp [State.account?, State.putAccount]

theorem State.account?_putAccount_ne (s : State) {a b : AccountSlot} (r : Option Account) (h : b ≠ a) :
    (s.putAccount a r).account? b = s.account? b := by
  have : a.val ≠ b.val := fun e => h (Fin.ext e.symm)
  simp [State.account?, State.putAccount, this]

@[simp] theorem State.position_putPosition_self (s : State) (p : PositionNo) (r : Position) :
    (s.putPosition p r).position p = r := by
  simp [State.position, State.putPosition]

theorem State.position_putPosition_ne (s : State) {p q : PositionNo} (r : Position) (h : q ≠ p) :
    (s.putPosition p r).position q = s.position q := by
  have : p.val ≠ q.val := fun e => h (Fin.ext e.symm)
  simp [State.position, State.putPosition, this]

@[simp] theorem State.supplier_putSupplier_self (s : State) (n : SupplierNo) (r : Supplier) :
    (s.putSupplier n r).supplier n = r := by
  simp [State.supplier, State.putSupplier]

theorem State.supplier_putSupplier_ne (s : State) {n m : SupplierNo} (r : Supplier) (h : m ≠ n) :
    (s.putSupplier n r).supplier m = s.supplier m := by
  have : n.val ≠ m.val := fun e => h (Fin.ext e.symm)
  simp [State.supplier, State.putSupplier, this]

/-- Two writes of one feeder record leave the second. -/
@[simp] theorem State.putFeeder_putFeeder (s : State) (ch : Channel) (f g : Feeder) :
    (s.putFeeder ch f).putFeeder ch g = s.putFeeder ch g := by
  simp [State.putFeeder]

/-- Writing a feeder's own record back changes nothing. -/
@[simp] theorem State.putFeeder_feeder (s : State) (ch : Channel) : s.putFeeder ch (s.feeder ch) = s := by
  simp [State.putFeeder, State.feeder]

/-! ## Readers that an update leaves alone -/

@[simp] theorem State.active_putFeeder (s : State) (ch c : Channel) (f : Feeder) :
    (s.putFeeder ch f).active c = s.active c := rfl

@[simp] theorem State.fbClosed_putFeeder (s : State) (ch c : Channel) (d : Side) (f : Feeder) :
    (s.putFeeder ch f).fbClosed c d = s.fbClosed c d := rfl

@[simp] theorem State.now_putFeeder (s : State) (ch : Channel) (f : Feeder) :
    (s.putFeeder ch f).now = s.now := rfl

@[simp] theorem State.feeder_putSet (s : State) (i : SetSlot) (r : Option SetRec) (ch : Channel) :
    (s.putSet i r).feeder ch = s.feeder ch := rfl

@[simp] theorem State.set?_putFeeder (s : State) (ch : Channel) (f : Feeder) (i : SetSlot) :
    (s.putFeeder ch f).set? i = s.set? i := rfl

/-! ## A frame that ends -/

@[simp] theorem State.notTaken_uptime (s : State) : s.notTaken.uptime = s.uptime := rfl
@[simp] theorem State.notTaken_clock (s : State) : s.notTaken.clock = s.clock := rfl
@[simp] theorem State.notTaken_mode (s : State) : s.notTaken.mode = s.mode := rfl
@[simp] theorem State.notTaken_straps (s : State) : s.notTaken.straps = s.straps := rfl
@[simp] theorem State.notTaken_sets (s : State) : s.notTaken.sets = s.sets := rfl
@[simp] theorem State.notTaken_curves (s : State) : s.notTaken.curves = s.curves := rfl
@[simp] theorem State.notTaken_feeders (s : State) : s.notTaken.feeders = s.feeders := rfl
@[simp] theorem State.notTaken_queue (s : State) : s.notTaken.queue = s.queue := rfl
@[simp] theorem State.notTaken_params (s : State) : s.notTaken.params = s.params := rfl
@[simp] theorem State.notTaken_lastOutcome (s : State) : s.notTaken.lastOutcome = s.lastOutcome := rfl
@[simp] theorem State.notTaken_positions (s : State) : s.notTaken.positions = s.positions := rfl
@[simp] theorem State.notTaken_suppliers (s : State) : s.notTaken.suppliers = s.suppliers := rfl
@[simp] theorem State.notTaken_accounts (s : State) : s.notTaken.accounts = s.accounts := rfl
@[simp] theorem State.notTaken_tariff (s : State) : s.notTaken.tariff = s.tariff := rfl
@[simp] theorem State.notTaken_result (s : State) : s.notTaken.result = s.result := rfl
@[simp] theorem State.notTaken_flags (s : State) : s.notTaken.flags = s.flags := rfl
@[simp] theorem State.notTaken_mask (s : State) : s.notTaken.mask = s.mask := rfl
@[simp] theorem State.notTaken_snapshot (s : State) : s.notTaken.snapshot = s.snapshot := rfl
@[simp] theorem State.notTaken_sdo (s : State) : s.notTaken.sdo = .released := rfl
@[simp] theorem State.notTaken_staging (s : State) : s.notTaken.staging = s.staging := rfl
@[simp] theorem State.notTaken_transfer (s : State) : s.notTaken.transfer = s.transfer := rfl
@[simp] theorem State.notTaken_pins (s : State) : s.notTaken.pins = s.pins := rfl
@[simp] theorem State.notTaken_pending (s : State) : s.notTaken.pending = s.pending := rfl
@[simp] theorem State.notTaken_choices (s : State) : s.notTaken.choices = s.choices := rfl

@[simp] theorem State.answer_uptime (s : State) (st : Status) (d : List Byte) : (s.answer st d).uptime = s.uptime := rfl
@[simp] theorem State.answer_clock (s : State) (st : Status) (d : List Byte) : (s.answer st d).clock = s.clock := rfl
@[simp] theorem State.answer_mode (s : State) (st : Status) (d : List Byte) : (s.answer st d).mode = s.mode := rfl
@[simp] theorem State.answer_straps (s : State) (st : Status) (d : List Byte) : (s.answer st d).straps = s.straps := rfl
@[simp] theorem State.answer_sets (s : State) (st : Status) (d : List Byte) : (s.answer st d).sets = s.sets := rfl
@[simp] theorem State.answer_curves (s : State) (st : Status) (d : List Byte) : (s.answer st d).curves = s.curves := rfl
@[simp] theorem State.answer_feeders (s : State) (st : Status) (d : List Byte) : (s.answer st d).feeders = s.feeders := rfl
@[simp] theorem State.answer_queue (s : State) (st : Status) (d : List Byte) : (s.answer st d).queue = s.queue := rfl
@[simp] theorem State.answer_params (s : State) (st : Status) (d : List Byte) : (s.answer st d).params = s.params := rfl
@[simp] theorem State.answer_lastOutcome (s : State) (st : Status) (d : List Byte) : (s.answer st d).lastOutcome = s.lastOutcome := rfl
@[simp] theorem State.answer_positions (s : State) (st : Status) (d : List Byte) : (s.answer st d).positions = s.positions := rfl
@[simp] theorem State.answer_suppliers (s : State) (st : Status) (d : List Byte) : (s.answer st d).suppliers = s.suppliers := rfl
@[simp] theorem State.answer_accounts (s : State) (st : Status) (d : List Byte) : (s.answer st d).accounts = s.accounts := rfl
@[simp] theorem State.answer_tariff (s : State) (st : Status) (d : List Byte) : (s.answer st d).tariff = s.tariff := rfl
@[simp] theorem State.answer_result (s : State) (st : Status) (d : List Byte) : (s.answer st d).result = ⟨st, d⟩ := rfl
@[simp] theorem State.answer_flags (s : State) (st : Status) (d : List Byte) : (s.answer st d).flags = s.flags := rfl
@[simp] theorem State.answer_mask (s : State) (st : Status) (d : List Byte) : (s.answer st d).mask = s.mask := rfl
@[simp] theorem State.answer_snapshot (s : State) (st : Status) (d : List Byte) : (s.answer st d).snapshot = s.snapshot := rfl
@[simp] theorem State.answer_sdo (s : State) (st : Status) (d : List Byte) : (s.answer st d).sdo = .low := rfl
@[simp] theorem State.answer_staging (s : State) (st : Status) (d : List Byte) : (s.answer st d).staging = s.staging := rfl
@[simp] theorem State.answer_transfer (s : State) (st : Status) (d : List Byte) : (s.answer st d).transfer = s.transfer := rfl
@[simp] theorem State.answer_pins (s : State) (st : Status) (d : List Byte) : (s.answer st d).pins = s.pins := rfl
@[simp] theorem State.answer_pending (s : State) (st : Status) (d : List Byte) : (s.answer st d).pending = s.pending := rfl
@[simp] theorem State.answer_choices (s : State) (st : Status) (d : List Byte) : (s.answer st d).choices = s.choices := rfl

end Sys2Proof.Machine
end

