-- ==== Sys2Proof/Laws/Notices.lean ====
section
/-! SUPPORT. What raising a flag can do (R185, R187): it reaches the flags and the re-raise markers, and
nothing else. -/

namespace Sys2Proof.Machine

/-- Raising a flag either changes nothing or sets the flag and marks it in a snapshot that is held. -/
theorem State.raise_cases (s : State) (f : Flag) :
    s.raise f = s ∨ (s.pins.resetN = true ∧ s.mask.getLsbD f.bit = true ∧ s.raise f =
      { s with flags := s.flags ||| f.word, snapshot := s.snapshot.map (·.mark f) }) := by
  unfold State.raise
  split
  · rename_i h
    simp only [Bool.and_eq_true] at h
    exact .inr ⟨h.1, h.2, rfl⟩
  · exact .inl rfl

/-- Raising a flag reaches two fields. -/
theorem State.raise_eq (s : State) (f : Flag) :
    s.raise f = { s with flags := (s.raise f).flags, snapshot := (s.raise f).snapshot } := by
  rcases s.raise_cases f with h | ⟨_, _, h⟩ <;> rw [h]

theorem State.raiseIf_eq (s : State) (c : Bool) (f : Flag) :
    s.raiseIf c f = { s with flags := (s.raiseIf c f).flags, snapshot := (s.raiseIf c f).snapshot } := by
  cases c
  · rfl
  · exact s.raise_eq f

@[simp] theorem State.raiseIf_false (s : State) (f : Flag) : s.raiseIf false f = s := rfl

@[simp] theorem State.raiseIf_true (s : State) (f : Flag) : s.raiseIf true f = s.raise f := rfl

@[simp] theorem State.raise_uptime (s : State) (f : Flag) : (s.raise f).uptime = s.uptime := by
  rw [s.raise_eq f]

@[simp] theorem State.raise_clock (s : State) (f : Flag) : (s.raise f).clock = s.clock := by
  rw [s.raise_eq f]

@[simp] theorem State.raise_mode (s : State) (f : Flag) : (s.raise f).mode = s.mode := by
  rw [s.raise_eq f]

@[simp] theorem State.raise_straps (s : State) (f : Flag) : (s.raise f).straps = s.straps := by
  rw [s.raise_eq f]

@[simp] theorem State.raise_sets (s : State) (f : Flag) : (s.raise f).sets = s.sets := by
  rw [s.raise_eq f]

@[simp] theorem State.raise_curves (s : State) (f : Flag) : (s.raise f).curves = s.curves := by
  rw [s.raise_eq f]

@[simp] theorem State.raise_feeders (s : State) (f : Flag) : (s.raise f).feeders = s.feeders := by
  rw [s.raise_eq f]

@[simp] theorem State.raise_queue (s : State) (f : Flag) : (s.raise f).queue = s.queue := by
  rw [s.raise_eq f]

@[simp] theorem State.raise_params (s : State) (f : Flag) : (s.raise f).params = s.params := by
  rw [s.raise_eq f]

@[simp] theorem State.raise_lastOutcome (s : State) (f : Flag) : (s.raise f).lastOutcome = s.lastOutcome := by
  rw [s.raise_eq f]

@[simp] theorem State.raise_positions (s : State) (f : Flag) : (s.raise f).positions = s.positions := by
  rw [s.raise_eq f]

@[simp] theorem State.raise_suppliers (s : State) (f : Flag) : (s.raise f).suppliers = s.suppliers := by
  rw [s.raise_eq f]

@[simp] theorem State.raise_accounts (s : State) (f : Flag) : (s.raise f).accounts = s.accounts := by
  rw [s.raise_eq f]

@[simp] theorem State.raise_tariff (s : State) (f : Flag) : (s.raise f).tariff = s.tariff := by
  rw [s.raise_eq f]

@[simp] theorem State.raise_result (s : State) (f : Flag) : (s.raise f).result = s.result := by
  rw [s.raise_eq f]

@[simp] theorem State.raise_mask (s : State) (f : Flag) : (s.raise f).mask = s.mask := by
  rw [s.raise_eq f]

@[simp] theorem State.raise_sdo (s : State) (f : Flag) : (s.raise f).sdo = s.sdo := by
  rw [s.raise_eq f]

@[simp] theorem State.raise_staging (s : State) (f : Flag) : (s.raise f).staging = s.staging := by
  rw [s.raise_eq f]

@[simp] theorem State.raise_transfer (s : State) (f : Flag) : (s.raise f).transfer = s.transfer := by
  rw [s.raise_eq f]

@[simp] theorem State.raise_pins (s : State) (f : Flag) : (s.raise f).pins = s.pins := by
  rw [s.raise_eq f]

@[simp] theorem State.raise_pending (s : State) (f : Flag) : (s.raise f).pending = s.pending := by
  rw [s.raise_eq f]

@[simp] theorem State.raise_choices (s : State) (f : Flag) : (s.raise f).choices = s.choices := by
  rw [s.raise_eq f]

@[simp] theorem State.raiseIf_uptime (s : State) (c : Bool) (f : Flag) : (s.raiseIf c f).uptime = s.uptime := by
  rw [s.raiseIf_eq c f]

@[simp] theorem State.raiseIf_clock (s : State) (c : Bool) (f : Flag) : (s.raiseIf c f).clock = s.clock := by
  rw [s.raiseIf_eq c f]

@[simp] theorem State.raiseIf_mode (s : State) (c : Bool) (f : Flag) : (s.raiseIf c f).mode = s.mode := by
  rw [s.raiseIf_eq c f]

@[simp] theorem State.raiseIf_straps (s : State) (c : Bool) (f : Flag) : (s.raiseIf c f).straps = s.straps := by
  rw [s.raiseIf_eq c f]

@[simp] theorem State.raiseIf_sets (s : State) (c : Bool) (f : Flag) : (s.raiseIf c f).sets = s.sets := by
  rw [s.raiseIf_eq c f]

@[simp] theorem State.raiseIf_curves (s : State) (c : Bool) (f : Flag) : (s.raiseIf c f).curves = s.curves := by
  rw [s.raiseIf_eq c f]

@[simp] theorem State.raiseIf_feeders (s : State) (c : Bool) (f : Flag) : (s.raiseIf c f).feeders = s.feeders := by
  rw [s.raiseIf_eq c f]

@[simp] theorem State.raiseIf_queue (s : State) (c : Bool) (f : Flag) : (s.raiseIf c f).queue = s.queue := by
  rw [s.raiseIf_eq c f]

@[simp] theorem State.raiseIf_params (s : State) (c : Bool) (f : Flag) : (s.raiseIf c f).params = s.params := by
  rw [s.raiseIf_eq c f]

@[simp] theorem State.raiseIf_lastOutcome (s : State) (c : Bool) (f : Flag) : (s.raiseIf c f).lastOutcome = s.lastOutcome := by
  rw [s.raiseIf_eq c f]

@[simp] theorem State.raiseIf_positions (s : State) (c : Bool) (f : Flag) : (s.raiseIf c f).positions = s.positions := by
  rw [s.raiseIf_eq c f]

@[simp] theorem State.raiseIf_suppliers (s : State) (c : Bool) (f : Flag) : (s.raiseIf c f).suppliers = s.suppliers := by
  rw [s.raiseIf_eq c f]

@[simp] theorem State.raiseIf_accounts (s : State) (c : Bool) (f : Flag) : (s.raiseIf c f).accounts = s.accounts := by
  rw [s.raiseIf_eq c f]

@[simp] theorem State.raiseIf_tariff (s : State) (c : Bool) (f : Flag) : (s.raiseIf c f).tariff = s.tariff := by
  rw [s.raiseIf_eq c f]

@[simp] theorem State.raiseIf_result (s : State) (c : Bool) (f : Flag) : (s.raiseIf c f).result = s.result := by
  rw [s.raiseIf_eq c f]

@[simp] theorem State.raiseIf_mask (s : State) (c : Bool) (f : Flag) : (s.raiseIf c f).mask = s.mask := by
  rw [s.raiseIf_eq c f]

@[simp] theorem State.raiseIf_sdo (s : State) (c : Bool) (f : Flag) : (s.raiseIf c f).sdo = s.sdo := by
  rw [s.raiseIf_eq c f]

@[simp] theorem State.raiseIf_staging (s : State) (c : Bool) (f : Flag) : (s.raiseIf c f).staging = s.staging := by
  rw [s.raiseIf_eq c f]

@[simp] theorem State.raiseIf_transfer (s : State) (c : Bool) (f : Flag) : (s.raiseIf c f).transfer = s.transfer := by
  rw [s.raiseIf_eq c f]

@[simp] theorem State.raiseIf_pins (s : State) (c : Bool) (f : Flag) : (s.raiseIf c f).pins = s.pins := by
  rw [s.raiseIf_eq c f]

@[simp] theorem State.raiseIf_pending (s : State) (c : Bool) (f : Flag) : (s.raiseIf c f).pending = s.pending := by
  rw [s.raiseIf_eq c f]

@[simp] theorem State.raiseIf_choices (s : State) (c : Bool) (f : Flag) : (s.raiseIf c f).choices = s.choices := by
  rw [s.raiseIf_eq c f]

@[simp] theorem State.set?_raise (s : State) (f : Flag) (i : SetSlot) : (s.raise f).set? i = s.set? i := by
  simp [State.set?]

@[simp] theorem State.feeder_raise (s : State) (f : Flag) (ch : Channel) :
    (s.raise f).feeder ch = s.feeder ch := by
  simp [State.feeder]

/-- The bit of one flag in the word of another. -/
theorem Flag.getLsbD_word (f g : Flag) : f.word.getLsbD g.bit = decide (f = g) := by
  cases f <;> cases g <;> decide

end Sys2Proof.Machine
end

