-- ==== Sys2Proof/Laws/Frames.lean ====
section
/-! SUPPORT. What the shared operations of the Feeder Bank, the queue and the sequencer leave alone, and
what a flush, a removal, the end of a transfer and a scan can do. -/

namespace Sys2Proof.Machine

/-! ## Feeders -/

theorem Feeder.sameTerms_refl (f : Feeder) : f.sameTerms f := ⟨rfl, rfl, rfl, rfl, rfl, rfl⟩

theorem Feeder.sameTerms_trans {f g h : Feeder} (a : h.sameTerms g) (b : g.sameTerms f) : h.sameTerms f := by
  obtain ⟨a1, a2, a3, a4, a5, a6⟩ := a
  obtain ⟨b1, b2, b3, b4, b5, b6⟩ := b
  exact ⟨a1.trans b1, a2.trans b2, a3.trans b3, a4.trans b4, a5.trans b5, a6.trans b6⟩

/-! ## The frame -/

theorem KeepsOtherRecords.refl (s : State) : KeepsOtherRecords s s :=
  ⟨rfl, rfl, rfl, rfl, rfl, rfl, rfl, rfl, rfl, rfl, rfl, rfl, fun _ => rfl, fun _ => Feeder.sameTerms_refl _⟩

theorem KeepsOtherRecords.trans {s t u : State} (a : KeepsOtherRecords s t) (b : KeepsOtherRecords t u) :
    KeepsOtherRecords s u where
  uptime := b.uptime.trans a.uptime
  clock := b.clock.trans a.clock
  mode := b.mode.trans a.mode
  curves := b.curves.trans a.curves
  params := b.params.trans a.params
  positions := b.positions.trans a.positions
  suppliers := b.suppliers.trans a.suppliers
  accounts := b.accounts.trans a.accounts
  tariff := b.tariff.trans a.tariff
  sdo := b.sdo.trans a.sdo
  pending := b.pending.trans a.pending
  choices := b.choices.trans a.choices
  sets i := (b.sets i).trans (a.sets i)
  feeders ch := Feeder.sameTerms_trans (b.feeders ch) (a.feeders ch)

/-- A write of a feeder record that keeps its terms keeps the other records. -/
theorem KeepsOtherRecords.putFeeder {s : State} {ch : Channel} {f : Feeder}
    (h : f.sameTerms (s.feeder ch)) : KeepsOtherRecords s (s.putFeeder ch f) where
  uptime := rfl
  clock := rfl
  mode := rfl
  curves := rfl
  params := rfl
  positions := rfl
  suppliers := rfl
  accounts := rfl
  tariff := rfl
  sdo := rfl
  pending := rfl
  choices := rfl
  sets _ := rfl
  feeders c := by
    by_cases e : c = ch
    · subst e; simpa using h
    · rw [State.feeder_putFeeder_ne _ _ e]; exact Feeder.sameTerms_refl _

/-- A drawn order: of two or more feeders it is the next free choice, which is counted (R71). -/
theorem State.drawOrder_eq (s : State) (l : List Channel) :
    s.drawOrder l = if 2 ≤ l.length then
      (arrange (Config.pick s.choices) l, { s with choices := s.choices + 1 }) else (l, s) := by
  match l with
  | [] => rfl
  | [_] => rfl
  | _ :: _ :: _ => simp [drawOrder]

/-- Drawing an order changes nothing but the count of free choices. -/
theorem State.drawOrder_state (s : State) (l : List Channel) :
    (s.drawOrder l).2 = { s with choices := (s.drawOrder l).2.choices } := by
  rw [drawOrder_eq]
  split <;> rfl

/-- Changes of the queue, the transfer in hand, the last-outcome record, the flags and the snapshot keep
the other records. -/
theorem KeepsOtherRecords.aside (s : State) (q : List Order) (t : Option Transfer) (l : Option LastOutcome)
    (fl : BitVec 16) (sn : Option Snapshot) :
    KeepsOtherRecords s
      { s with queue := q, transfer := t, lastOutcome := l, flags := fl, snapshot := sn } :=
  ⟨rfl, rfl, rfl, rfl, rfl, rfl, rfl, rfl, rfl, rfl, rfl, rfl, fun _ => rfl, fun _ => Feeder.sameTerms_refl _⟩

theorem KeepsOtherRecords.raise (s : State) (f : Flag) : KeepsOtherRecords s (s.raise f) := by
  rw [s.raise_eq f]
  exact .aside s s.queue s.transfer s.lastOutcome _ _

theorem KeepsOtherRecords.driveSide (s : State) (ch : Channel) (d : Side) (closed : Bool) :
    KeepsOtherRecords s (s.driveSide ch d closed) :=
  .putFeeder ⟨rfl, rfl, rfl, rfl, rfl, rfl⟩

theorem KeepsOtherRecords.driveOpen (s : State) (ch : Channel) : KeepsOtherRecords s (s.driveOpen ch) :=
  .putFeeder ⟨rfl, rfl, rfl, rfl, rfl, rfl⟩

theorem KeepsOtherRecords.rewatch (s : State) (ch : Channel) (ms : Nat) :
    KeepsOtherRecords s (s.rewatch ch ms) :=
  .putFeeder ⟨rfl, rfl, rfl, rfl, rfl, rfl⟩

theorem KeepsOtherRecords.recordLast (s : State) (ch : Channel) (d : Side) (o : TransferOutcome) (r : Reason) :
    KeepsOtherRecords s (s.recordLast ch d o r) :=
  .putFeeder ⟨rfl, rfl, rfl, rfl, rfl, rfl⟩

/-- A flush into a set's record touches its carried energy alone. -/
theorem SetRec.apartFromCarried_carry (r : SetRec) (a : AccountSlot) (e : Nat) :
    (r.carry a e).apartFromCarried = r.apartFromCarried := by
  unfold SetRec.carry
  split <;> rfl

/-- A flush either changes nothing or moves the interval energy of an ON feeder to its energised set. -/
theorem State.flush_cases (s : State) (ch : Channel) :
    s.flush ch = s ∨ ∃ i, (s.feeder ch).energisedSet = some i ∧ 0 < (s.feeder ch).interval
      ∧ s.flush ch = (s.updSet i (·.carry (s.feeder ch).account (s.feeder ch).interval)).putFeeder ch
          { s.feeder ch with interval := 0 } := by
  unfold State.flush State.flushMoves
  cases h : (s.feeder ch).energisedSet with
  | none => exact .inl rfl
  | some i =>
    by_cases e : 0 < (s.feeder ch).interval
    · simp only [e, if_true]
      exact .inr ⟨i, rfl, trivial, rfl⟩
    · simp only [e, if_false]
      exact .inl trivial

/-- Writing a set's carried energy keeps the other records. -/
theorem KeepsOtherRecords.updSet {s : State} {i : SetSlot} {g : SetRec → SetRec}
    (h : ∀ r, (g r).apartFromCarried = r.apartFromCarried) : KeepsOtherRecords s (s.updSet i g) where
  uptime := rfl
  clock := rfl
  mode := rfl
  curves := rfl
  params := rfl
  positions := rfl
  suppliers := rfl
  accounts := rfl
  tariff := rfl
  sdo := rfl
  pending := rfl
  choices := rfl
  sets j := by
    unfold State.updSet
    by_cases e : j = i
    · subst e
      rw [State.set?_putSet_self]
      cases s.set? j <;> simp [h]
    · rw [State.set?_putSet_ne _ _ e]
  feeders _ := Feeder.sameTerms_refl _

theorem KeepsOtherRecords.flush (s : State) (ch : Channel) : KeepsOtherRecords s (s.flush ch) := by
  rcases s.flush_cases ch with h | ⟨i, _, _, h⟩
  · rw [h]; exact .refl s
  · rw [h]
    exact .trans (.updSet fun r => r.apartFromCarried_carry _ _) (.putFeeder ⟨rfl, rfl, rfl, rfl, rfl, rfl⟩)

/-- The removal of a feeder's order takes it out of the queue and records why, or finds none. -/
theorem State.removeOrder_cases (s : State) (ch : Channel) (o : TransferOutcome) (r : Reason) :
    (s.orderFor ch = none ∧ s.removeOrder ch o r = s)
      ∨ ∃ ord, s.orderFor ch = some ord ∧ s.removeOrder ch o r =
          ({ s with queue := s.queue.filter (·.feeder != ch) } : State).recordLast ch ord.target o r := by
  unfold State.removeOrder
  cases h : s.orderFor ch with
  | none => exact .inl ⟨rfl, rfl⟩
  | some ord => exact .inr ⟨ord, rfl, rfl⟩

theorem KeepsOtherRecords.removeOrder (s : State) (ch : Channel) (o : TransferOutcome) (r : Reason) :
    KeepsOtherRecords s (s.removeOrder ch o r) := by
  rcases s.removeOrder_cases ch o r with ⟨_, h⟩ | ⟨ord, _, h⟩
  · rw [h]; exact .refl s
  · rw [h]
    exact .trans (.aside s _ s.transfer s.lastOutcome s.flags s.snapshot) (.recordLast _ _ _ _ _)

theorem KeepsOtherRecords.raiseAll (flags : List Flag) (s : State) :
    KeepsOtherRecords s (flags.foldl State.raise s) := by
  induction flags generalizing s with
  | nil => exact .refl s
  | cons f rest ih => exact .trans (.raise s f) (ih _)

theorem KeepsOtherRecords.endTransfer (s : State) (t : Transfer) (st : FeederState) (cause : FaultCause)
    (o : TransferOutcome) (r : Reason) (flags : List Flag) :
    KeepsOtherRecords s (s.endTransfer t st cause o r flags) := by
  have h1 : KeepsOtherRecords s (if st = .fault then s.driveOpen t.feeder else s) := by
    split
    · exact .driveOpen s _
    · exact .refl s
  unfold State.endTransfer
  refine .trans h1 (.trans (.putFeeder ?_) (.trans (.recordLast _ _ _ _ _) (.trans (.aside _ _ _ _ _ _)
    (.trans (.raiseAll flags _) (.rewatch _ _ _)))))
  exact ⟨rfl, rfl, rfl, rfl, rfl, rfl⟩

theorem KeepsOtherRecords.faultFeeder (s : State) (ch : Channel) (cause : FaultCause) :
    KeepsOtherRecords s (s.faultFeeder ch cause) := by
  unfold State.faultFeeder
  refine .trans (.flush s ch) (.trans (.driveOpen _ ch) (.trans (.putFeeder ?_)
    (.trans (.removeOrder _ _ _ _) (.raise _ _))))
  exact ⟨rfl, rfl, rfl, rfl, rfl, rfl⟩

/-! ## The scan -/

/-- Once an order has been handed over, a pass only writes wait reasons (R99). -/
theorem State.scanPass_handed (s : State) (q : List Order) : s.scanPass true q = (s, q.map s.leftWaiting) := by
  induction q with
  | nil => rfl
  | cons o rest ih => simp [State.scanPass, ih]

/-- A pass over the orders from the front either hands nothing over and writes every wait reason, or hands
over the first order that can be, writes the reasons of those before it as they stood and of those behind it
after the take (R98, R99). -/
theorem State.scanPass_cases (s : State) (q : List Order) :
    let ready (p : Order) : Bool :=
      (s.waitReason p).isNone && decide (s.clock.minute < p.endMin) && s.canHandOver p.feeder
    ((∀ p ∈ q, ready p = false) ∧ s.scanPass false q = (s, q.map s.leftWaiting))
    ∨ ∃ pre o post, q = pre ++ o :: post ∧ (∀ p ∈ pre, ready p = false) ∧ ready o = true
        ∧ s.scanPass false q = (s.take o.feeder o.target,
            pre.map s.leftWaiting ++ post.map (s.take o.feeder o.target).leftWaiting) := by
  intro ready
  induction q with
  | nil => exact .inl ⟨by simp, rfl⟩
  | cons o rest ih =>
    by_cases h : ready o = true
    · refine .inr ⟨[], o, rest, rfl, by simp, h, ?_⟩
      have h' : (!false && (s.waitReason o).isNone && decide (s.clock.minute < o.endMin)
          && s.canHandOver o.feeder) = true := by simpa [ready] using h
      rw [State.scanPass, if_pos h', State.scanPass_handed]
      rfl
    · have h' : ¬ (!false && (s.waitReason o).isNone && decide (s.clock.minute < o.endMin)
          && s.canHandOver o.feeder) = true := by simpa [ready] using h
      have hf : ready o = false := by simpa using h
      rcases ih with ⟨none_ready, e⟩ | ⟨pre, p, post, rfl, before, at_, e⟩
      · refine .inl ⟨by simpa [hf] using none_ready, ?_⟩
        rw [State.scanPass, if_neg h', e]
        rfl
      · refine .inr ⟨o :: pre, p, post, rfl, by simpa [hf] using before, at_, ?_⟩
        rw [State.scanPass, if_neg h', e]
        rfl

end Sys2Proof.Machine
end

