-- ==== Sys2Proof/Laws/Operands.lean ====
section
/-! SUPPORT. How the bits of a frame make bytes (R180), what each operand form answers (R5, R45, R55, R137),
what a check answers (R3), what `serve` makes of an answer, and how result bytes read back. -/

namespace Sys2Proof

/-! ## The bits of a frame -/

@[simp] theorem assemble_byteBits (b : Byte) (l : List Bool) :
    assemble (byteBits b ++ l) = b :: assemble l := by
  simp only [byteBits, List.cons_append, List.nil_append, assemble, List.cons.injEq, and_true]
  apply BitVec.eq_of_getMsbD_eq
  intro i hi
  rw [BitVec.getMsbD_ofBoolListBE]
  match i, hi with
  | 0, _ | 1, _ | 2, _ | 3, _ | 4, _ | 5, _ | 6, _ | 7, _ => rfl

/-- Bytes sent bit by bit are assembled again, whatever bits follow them (R180). -/
theorem assemble_flatMap_byteBits (bytes : List Byte) (l : List Bool) :
    assemble (bytes.flatMap byteBits ++ l) = bytes ++ assemble l := by
  induction bytes with
  | nil => rfl
  | cons b bytes ih => simp [List.flatMap_cons, List.append_assoc, ih]

/-- Fewer than eight bits make no byte (R180). -/
theorem assemble_of_length_lt {l : List Bool} (h : l.length < 8) : assemble l = [] := by
  match l, h with
  | [], _ | [_], _ | [_, _], _ | [_, _, _], _ | [_, _, _, _], _ | [_, _, _, _, _], _
  | [_, _, _, _, _, _], _ | [_, _, _, _, _, _, _], _ => rfl
  | _ :: _ :: _ :: _ :: _ :: _ :: _ :: _ :: _, h => simp at h; omega

theorem length_flatMap_byteBits (bytes : List Byte) : (bytes.flatMap byteBits).length = 8 * bytes.length := by
  induction bytes with
  | nil => rfl
  | cons b bytes ih =>
    simp only [List.flatMap_cons, List.length_append, ih, List.length_cons, byteBits, List.length_nil]
    omega

@[simp] theorem Frame.sent_taken (bytes : List Byte) (more : List Bool) : (sent bytes more).taken = true := rfl

@[simp] theorem Frame.sent_bytes (bytes : List Byte) (more : List Bool) :
    (sent bytes more).bytes = bytes ++ assemble more := assemble_flatMap_byteBits bytes more

@[simp] theorem Frame.sent_tail (bytes : List Byte) (more : List Bool) :
    (sent bytes more).tail = more.length % 8 := by
  simp only [tail, sent, List.length_append, length_flatMap_byteBits]
  omega

end Sys2Proof

namespace Sys2Proof.Machine

/-! ## Operands -/

theorem slotOperand_ok {b : Byte} {i : SetSlot} (h : b.toNat = i.val + 1) : slotOperand b = .ok i := by
  have := i.isLt
  unfold slotOperand
  rw [dif_pos (by omega)]
  congr 1
  exact Fin.ext (by simp; omega)

theorem slotOperand_range {b : Byte} (h : b.toNat = 0 ∨ 24 < b.toNat) : slotOperand b = .error .range := by
  unfold slotOperand
  rw [dif_neg (by omega)]

theorem slotOrNoneOperand_ok {b : Byte} {x : Option SetSlot} (h : b.toNat = slotCode x) :
    slotOrNoneOperand b = .ok x := by
  unfold slotOrNoneOperand
  cases x with
  | none => simp [slotCode] at h; simp [h]
  | some i =>
    simp only [slotCode] at h
    have := i.isLt
    rw [if_neg (by omega), dif_pos (by omega)]
    congr 2
    exact Fin.ext (by simp; omega)

theorem slotOrNoneOperand_range {b : Byte} (h : 24 < b.toNat) : slotOrNoneOperand b = .error .range := by
  unfold slotOrNoneOperand
  rw [if_neg (by omega), dif_neg (by omega)]

theorem indexOperand_ok {n : Nat} {b : Byte} {i : Fin n} (h : b.toNat = i.val) : indexOperand n b = .ok i := by
  have := i.isLt
  unfold indexOperand
  rw [dif_pos (by omega)]
  congr 1
  exact Fin.ext h

theorem indexOperand_range {n : Nat} {b : Byte} (h : n ≤ b.toNat) : indexOperand n b = .error .range := by
  unfold indexOperand
  rw [dif_neg (by omega)]

theorem sideOperand_ok {b : Byte} {d : Side} (h : b.toNat = sideCode (some d)) : sideOperand b = .ok d := by
  cases d <;> simp [sideCode] at h <;> simp [sideOperand, h]

theorem sideOperand_range {b : Byte} (h : 2 ≤ b.toNat) : sideOperand b = .error .range := by
  unfold sideOperand
  rw [if_neg (by omega), if_neg (by omega)]

theorem permitModeOperand_ok {b : Byte} {m : PermitMode} (h : b.toNat = m.code) :
    permitModeOperand b = .ok m := by
  cases m <;> simp [PermitMode.code] at h <;> simp [permitModeOperand, h]

theorem permitModeOperand_range {b : Byte} (h : 2 < b.toNat) : permitModeOperand b = .error .range := by
  unfold permitModeOperand
  rw [if_neg (by omega), if_neg (by omega), if_neg (by omega)]

theorem require_true (st : Status) : require true st = .ok () := rfl

theorem require_false (st : Status) : require false st = .error st := rfl

theorem clampTo_eq {lo hi v : Nat} (h : lo ≤ hi) : clampTo lo hi v = max lo (min hi v) := by
  unfold clampTo
  split
  · omega
  · split <;> omega

/-! ## Serving a command -/

/-- A closed port ignores the frame and leaves SDO released (R173, R175, R180). -/
theorem serve_closed {s : State} (body : Except Status Reply) (h : s.portOpen = false) :
    serve s body = .next s.notTaken := by
  simp [serve, h]

/-- A refusal changes no record: it writes the result, SDO driving 00h (R3, R180, R182). -/
theorem serve_error {s : State} {st : Status} (h : s.portOpen = true) :
    serve s (.error st) = .next { s with result := ⟨st, []⟩, sdo := .low } := by
  simp [serve, State.answer, h]

/-- An answer is the state after the command with its result written. -/
theorem serve_ok {s : State} {r : Reply} (h : s.portOpen = true) :
    serve s (.ok r) = .next { r.state with result := ⟨r.status, r.data⟩, sdo := .low } := by
  simp [serve, State.answer, h]

/-- Whatever its body answers, `serve` answers a next state. -/
theorem serve_next (s : State) (body : Except Status Reply) : ∃ t, serve s body = .next t := ⟨_, rfl⟩

/-! ## Result bytes -/

@[simp] theorem be_length (n v : Nat) : (be n v).length = n := by
  induction n generalizing v with
  | zero => rfl
  | succ n ih => simp [be, ih]

@[simp] theorem beInt_length (n : Nat) (z : Int) : (beInt n z).length = n := be_length n _

@[simp] theorem byte_length (v : Nat) : (byte v).length = 1 := rfl

/-- One byte is the layout of one byte (R1). -/
theorem byte_eq_be (v : Nat) : byte v = be 1 v := rfl

/-- The bytes of a figure read back as the figure, cut to their width (R1). -/
theorem foldl_be (n v : Nat) : (be n v).foldl (fun x b => 256 * x + b.toNat) 0 = v % 256 ^ n := by
  induction n generalizing v with
  | zero => simp [be, Nat.mod_one]
  | succ n ih =>
    rw [be, List.foldl_append, ih]
    simp only [List.foldl_cons, List.foldl_nil, BitVec.toNat_ofNat, Nat.pow_succ', Nat.mod_mul]
    omega

/-- A field at the front of a result. -/
theorem fieldAt_be (n v : Nat) (rest : List Byte) : fieldAt (be n v ++ rest) 0 n = v % 256 ^ n := by
  simp [fieldAt, foldl_be]

/-- A field behind a part of a result. -/
theorem fieldAt_append (front rest : List Byte) (k n : Nat) :
    fieldAt (front ++ rest) (front.length + k) n = fieldAt rest k n := by
  have : List.drop (front.length + k) front = [] := List.drop_eq_nil_of_le (by omega)
  simp [fieldAt, List.drop_append, this]

end Sys2Proof.Machine
end

