-- ==== Sys2Proof/Tests/Slice0.lean ====
section
/-! SUPPORT. Tests on small states: the well-formedness checks, frames written out from R192, one step of
each command with the figures of the manual's worked examples, and for each statement that has
hypotheses a state and operands that meet them. -/

namespace Sys2Proof.Tests

open Sys2Proof.Machine

set_option Elab.async false

/-! ## Well-formedness and frames -/

/-- R149: a label of 17 bytes is refused. -/
theorem test_wf_refuses_long_label : (Instr.openAccount 5 (List.replicate 17 0x41)).wf = false := by decide

/-- R149: a label of 16 bytes and one of none are well formed. -/
theorem test_wf_takes_labels :
    (Instr.openAccount 5 (List.replicate 16 0x41)).wf = true ∧ (Instr.openAccount 5 []).wf = true := by decide

/-- R180: eleven bits make one whole byte, the first bit its most-significant one. -/
theorem test_bits_make_bytes :
    (⟨[false, false, false, false, false, true, true, false, true, true, false], true⟩ : Frame).bytes = [0x06]
    ∧ (⟨[true, true, true, true, true, true, true], true⟩ : Frame).bytes = [] := by decide +kernel

/-- A frame the port takes, of whole bytes and then `tail` single bits. -/
def framed (bytes : List Byte) (tail : Nat) : Frame := .sent bytes (List.replicate tail true)

/-- R192, the port's commands. -/
theorem test_frames_port :
    judge (framed [0x03, 2, 0xBF, 0xFE] 0) = .carryOut (.setAttentionMask 0xBFFE)
    ∧ judge (framed [0x04, 0] 0) = .carryOut .identify
    ∧ judge (framed [0x01, 0, 0, 0] 3) = .carryOut (.fetchResult 19)
    ∧ judge (framed [0x02, 0, 0, 0] 0) = .carryOut (.readAttention 16) := by decide +kernel

/-- R192, the clock's commands. -/
theorem test_frames_clock :
    judge (framed [0x06, 3, 0x00, 0x05, 0x64] 0) = .carryOut (.setClock 1380)
    ∧ judge (framed [0x07, 0] 0) = .carryOut .queryClock := by decide +kernel

/-- R192, Hire Set: unit 70,123, 200 kW, 800,000 mL, curve 1, 4,320 min, 48,000 cents, 312,400 mL. -/
theorem test_frames_hire_set :
    judge (framed [0x10, 21, 0x00, 0x01, 0x11, 0xEB, 0x00, 0xC8, 0x00, 0x0C, 0x35, 0x00, 0x01, 0x10, 0xE0,
      0x00, 0x00, 0xBB, 0x80, 0x00, 0x04, 0xC4, 0x50] 0)
      = .carryOut (.hireSet 70123 200 800000 1 4320 48000 312400) := by decide +kernel

/-- R192, Query Set with and without a view, Amend Set. -/
theorem test_frames_sets :
    judge (framed [0x11, 1, 0x03] 0) = .carryOut (.querySet 3 none)
    ∧ judge (framed [0x11, 2, 0x03, 0x01] 0) = .carryOut (.querySet 3 (some 1))
    ∧ judge (framed [0x14, 11, 0x07, 0x01, 0x00, 0x03, 0x0D, 0x40, 0x03, 0x52, 0x05, 0x10, 0x2D] 0)
      = .carryOut (.amendSet 7 1 200000 850 5 16 45) := by decide +kernel

/-- R192, curves and feeders. -/
theorem test_frames_curves_feeders :
    judge (framed [0x19, 4, 0x00, 0x03, 0xF7, 0xA0] 0) = .carryOut (.loadCurvePoint 260000)
    ∧ judge (framed [0x20, 3, 0x06, 0x01, 0x05] 0) = .carryOut (.bindSide 6 1 5)
    ∧ judge (framed [0x21, 2, 0x06, 0x16] 0) = .carryOut (.assignFeederAccount 6 22) := by decide +kernel

/-- R192, orders and the sequencer: feeder 8 to side B from 1,380 to 1,400; 400, 500 ms and 30 minutes. -/
theorem test_frames_orders :
    judge (framed [0x30, 8, 0x08, 0x01, 0x00, 0x05, 0x64, 0x00, 0x05, 0x78] 0)
      = .carryOut (.enqueueOrder 8 1 1380 1400)
    ∧ judge (framed [0x34, 6, 0x01, 0x90, 0x01, 0xF4, 0x00, 0x1E] 0)
      = .carryOut (.setTransferParameters 400 500 30) := by decide +kernel

/-- R192, deliveries. -/
theorem test_frames_deliveries :
    judge (framed [0x42, 7, 0x02, 0x0B, 0x01, 0x00, 0x06, 0x1A, 0x80] 0)
      = .carryOut (.openTicket 2 11 1 400000)
    ∧ judge (framed [0x44, 4, 0x02, 0x00, 0x9C, 0xB6] 0) = .carryOut (.closeTicket 2 40118) := by
  decide +kernel

/-- R192, accounts and tariff. -/
theorem test_frames_accounts_tariff :
    judge (framed [0x50, 7, 0x00, 0x00, 0x76, 0xCC, 0x42, 0x41, 0x52] 0)
      = .carryOut (.openAccount 30412 [0x42, 0x41, 0x52])
    ∧ judge (framed [0x59, 3, 0x02, 0x01, 0xE0] 0) = .carryOut (.setBandRate 2 480)
    ∧ judge (framed [0x5B, 2, 0x13, 0x03] 0) = .carryOut (.setScheduleSlot 19 3) := by decide +kernel

/-- R181: each judgement in its order. -/
theorem test_frames_judged :
    judge (framed [] 7) = .ignored ∧ judge (framed [0x17] 0) = .unknown ∧ judge (framed [0x04] 5) = .length
    ∧ judge (framed [0x06, 2, 0, 0] 0) = .length ∧ judge (framed [0x06, 3, 0, 0] 7) = .length
    ∧ judge (framed [0x50, 21] 0) = .length ∧ judge { framed [0x04, 0] 0 with taken := false } = .ignored := by decide +kernel

/-! ## Small states -/

/-- The state a command or event leads to. -/
def after (c : Instr) (s : State) : State :=
  match exec c s with
  | .next t => t
  | _ => s

/-- The part just after the port opens, with a valid clock. -/
def port : State := { State.reset with mode := .active, clock := ⟨true, 1380, 10, 0⟩ }

/-- Curve 1 of the worked evaluation (2.5). -/
def curve1 : Curve :=
  ⟨#v[4000, 9500, 14000, 18000, 22500, 27000, 31500, 36000, 41000, 46000, 51000], true⟩

/-- Set 3 of the worked evaluation (2.5), its interval due. -/
def set3 : SetRec :=
  { unit := 70123, rating := 200, capacity := 800000, minHire := 4320, dayRate := 48000, hireStart := 1000
    curve := 1, reserve := 100000, loadLimit := 850, idle := 0, relief := none, window := 30
    running := true, timer := 59999, expiring := true, tank := 312400, remainder := 1730, rate := 35000
    load := 600, runtime := 535, conds := ⟨false, false, false, false⟩, carried := [(20, 95)]
    overflow := 0, runSeconds := 600, burned := 5000, credited := 0, overfill := 0, dryCount := 0 }

/-- A stopped set that no record names. -/
def set12 : SetRec :=
  { set3 with
    unit := 5, hireStart := 2880, running := false, timer := 0, expiring := false, carried := []
    relief := some 2 }

def account (code : BitVec 32) : Account := Account.fresh code [0x42] 1440

/-- The site of the worked evaluation. Feeder 6 is DARK with an order to side A, feeder 7 is in FAULT,
positions 1 to 3 hold tickets in the three states. -/
def site : State :=
  let s := ((port.putSet 2 (some set3)).putSet 11 (some set12)).putSet 5 (some { set12 with unit := 6 })
  let s := (((s.putAccount 9 (some (account 9))).putAccount 12 (some (account 30412))).putAccount 20
    (some (account 20))).putAccount 22 (some (account 22))
  let s := s.putFeeder 4 { Feeder.cold with
    bound := ⟨some 2, some 5⟩, account := 12, state := .on .A, interval := 1530, drive := ⟨true, false⟩ }
  let s := s.putFeeder 5 { Feeder.cold with
    bound := ⟨none, some 2⟩, account := 9, state := .on .B, interval := 640, drive := ⟨false, true⟩ }
  let s := s.putFeeder 6 { Feeder.cold with bound := ⟨some 5, some 2⟩, demand := 41000 }
  let s := s.putFeeder 7 { Feeder.cold with bound := ⟨some 2, none⟩, state := .fault, cause := .stuck }
  let ticket : Ticket := ⟨.ready, 2, 1, 330000, 330000, 0, 0, 0, 0, false, false⟩
  let s := s.putPosition 1 ⟨.auto, 0, some ticket⟩
  let s := s.putPosition 2 ⟨.auto, 0, some { ticket with
    state := .dispensing, remaining := 100, delivered := 329900, liftMark := 180000
    credited := 180000, lifts := 2 }⟩
  let s := s.putPosition 3 ⟨.forceOn, 200, some { ticket with
    state := .paused, remaining := -2300, delivered := 332300, credited := 332300, lifts := 2
    liftMark := 180000, preset := true }⟩
  let s := ((s.putSupplier 1 ⟨.next 40117, 0, 0⟩).putSupplier 2 ⟨.exhausted, 1, 0⟩).putSupplier 3
    ⟨.next 999999, 0, 0⟩
  { s with
    curves := s.curves.set 1 curve1
    queue := [⟨6, .A, 1300, 1400, .operator, .notDue⟩]
    tariff := { s.tariff with price := ⟨189, none⟩ }
    pins := { s.pins with
      feedback := ⟨s.pins.feedback.a.set 4 true, s.pins.feedback.b.set 5 true⟩
      nozzle := s.pins.nozzle.set 2 true } }

/-! ## The port and attention -/

/-- R180, R183: 00h on bytes 0 and 1, status 00h, length 01h, the data byte ABh, cut short after four of its
bits: bit 32 of the frame is the first bit of ABh, and after bit 35 the line is released. -/
theorem test_fetch_result :
    let o := (after (.fetchResult 20) { port with result := ⟨.ok, [0xAB]⟩ }).sdo
    o = .output [false, false, false, false, false, false, false, false,
         false, false, false, false, false, false, false, true, true, false, true, false]
    ∧ o.level 15 = some false ∧ o.level 31 = some true ∧ o.level 33 = some false ∧ o.level 34 = some true
    ∧ o.level 36 = none := by
  decide +kernel

/-- R187, the notice arriving during Read Attention (10.4): ORDER_EXPIRED is cleared, RESERVE and
NOZZLE_DOWN stay. -/
theorem test_read_attention :
    let s := after .snapshot { port with flags := 0x0410 }
    let t := after (.readAttention 16) ((s.raise .reserve).raise .nozzleDown)
    t.flags = 0x0012 ∧ t.snapshot = none ∧ t.sdo = .output (byteBits 0x04 ++ byteBits 0x10) := by decide +kernel

/-- R187: with byte 3 not whole no flag is cleared. -/
theorem test_read_attention_cut :
    (after (.readAttention 15) (after .snapshot { port with flags := 0x0410 })).flags = 0x0410 := by
  decide +kernel

/-- R186, R185. -/
theorem test_set_attention_mask :
    let s := after (.setAttentionMask 0xBFFF) port
    s.result = ⟨.ok, [0xBF, 0xFF]⟩ ∧ (s.raise .saturated).flags = 0 ∧ (s.raise .dry).flags = 0x20 := by
  decide +kernel

/-- R184: 7416 is 1CF8h. -/
theorem test_identify :
    (after .identify { port with straps := ⟨true, false, true⟩ }).result
      = ⟨.ok, [0x42, 0x1C, 0xF8, 0x43, 0x05, 24, 8, 64, 4, 4, 6, 8, 0]⟩ := by decide +kernel

/-- R181: code 17h is in no table; a short count is LENGTH. -/
theorem test_unknown_command :
    (after (.unknownCommand (framed [0x17, 0] 0)) port).result = ⟨.unknown, []⟩
    ∧ (after (.unknownCommand (framed [0x06, 2, 0, 0] 0)) port).result = ⟨.length, []⟩
    ∧ (after (.unknownCommand (framed [0x06, 3, 0, 0, 9] 0)) port).clock.minute = 9 := by decide +kernel

/-- R173, R180: HOLDOVER takes no frame, and SDO is released; a command frame that is taken has it at 00h. -/
theorem test_closed_port :
    let shut : State := { port with mode := .holdover, sdo := .low }
    after (.setClock 5) shut = { shut with sdo := .released } ∧ (after (.setClock 5) port).sdo = .low := by
  decide +kernel

/-! ## Clock, supply, reset -/

/-- R170: a waiting price is made live and counted; the order that ends at 1,400 expires. Minute 1,400 is
in hour 23. -/
theorem test_set_clock :
    let s := after (.setClock 1400) { site with tariff := { site.tariff with price := ⟨189, some 200⟩ } }
    s.result = ⟨.ok, [0x00, 0x05, 0x78, 23, 0, 1, 1]⟩ ∧ s.tariff.price = ⟨200, none⟩ ∧ s.queue = []
    ∧ (s.feeder 6).last = some ⟨.A, .expired, .windowEnded, 1400⟩ := by decide +kernel

theorem test_set_clock_range : (after (.setClock 1048576) site).result = ⟨.range, []⟩ := by decide +kernel

/-- R171. -/
theorem test_query_clock :
    (after .queryClock { port with uptime := 258 }).result
      = ⟨.ok, [1, 0x00, 0x05, 0x64, 10, 23, 0, 0, 1, 2]⟩ := by decide +kernel

/-- R168, R169: second 59 is followed by second 0 of the next minute. -/
theorem test_second_advance :
    let s := after .siteSecondAdvance { port with clock := ⟨true, 1380, 59, 1000⟩ }
    s.clock = ⟨true, 1381, 0, 0⟩ := by decide +kernel

/-- R168: at 1,048,575 the minute holds. -/
theorem test_minute_holds :
    (after .siteSecondAdvance { port with clock := ⟨true, 1048575, 59, 1000⟩ }).clock
      = ⟨true, 1048575, 0, 0⟩ := by decide +kernel

/-- R172: a fall in RESUMING goes back to HOLDOVER. -/
theorem test_supply_modes :
    (after .supplyOkFall { port with mode := .resuming 700 }).mode = .holdover
    ∧ (after .supplyOkRise (after .supplyOkFall port)).mode = .resuming 0 := by decide +kernel

/-- R172: after 2,000 ms the part is ACTIVE and SUPPLY_RESTORED is set; at 1,999 ms nothing happens. -/
theorem test_resume :
    (after .resumeTimerExpiry { port with mode := .resuming 2000 }).mode = .active
    ∧ (after .resumeTimerExpiry { port with mode := .resuming 2000 }).flags = 0x2000
    ∧ (after .resumeTimerExpiry { port with mode := .resuming 1999 }).mode = .resuming 1999 := by
  decide +kernel

/-- R175. -/
theorem test_reset_fall :
    let s := after .resetNFall { port with flags := 0xFFFF }
    s.flags = 0 ∧ s.pins.resetN = false ∧ (s.raise .dry).flags = 0 := by decide +kernel

/-- The five feeders of the example of states after a reset line (3.6), held in reset. -/
def resetLine : State :=
  let s := (port.putSet 2 (some set3)).putSet 5 (some { set12 with unit := 6 })
  let both : PerSide (Option SetSlot) := ⟨some 2, some 5⟩
  let s := s.putFeeder 0 { Feeder.cold with bound := both, state := .on .A, drive := ⟨true, false⟩ }
  let s := s.putFeeder 1
    { Feeder.cold with bound := both, state := .on .B, drive := ⟨false, true⟩, interval := 70 }
  let s := s.putFeeder 2 { Feeder.cold with bound := both, state := .fault, cause := .stuck }
  let s := s.putFeeder 3 { Feeder.cold with bound := both, state := .transfer, interval := 40 }
  let s := s.putFeeder 4 { Feeder.cold with bound := both }
  { s with
    transfer := some ⟨3, some .A, .B, 5, .opening, false, none, 100, 300⟩
    pins := ⟨⟨(s.pins.feedback.a.set 0 true).set 4 true, s.pins.feedback.b⟩, s.pins.nozzle, true, false⟩ }

theorem test_reset_rise_feeders :
    let s := after (.resetNRise ⟨false, false, false⟩) resetLine
    (s.feeder 0).state = .on .A
    ∧ (s.feeder 1).state = .fault ∧ (s.feeder 1).cause = .unexpectedOpen ∧ (s.feeder 1).interval = 0
    ∧ (s.feeder 2).state = .dark ∧ (s.feeder 2).cause = .none
    ∧ (s.feeder 3).state = .dark ∧ (s.feeder 3).interval = 40
    ∧ (s.feeder 3).last = some ⟨.B, .failed, .reset, 1380⟩
    ∧ (s.feeder 4).state = .fault ∧ (s.feeder 4).cause = .unexpectedClose := by decide +kernel

/-- The flush of feeder 1 reaches side B's set, and FEEDER_FAULT and TRANSFER_FAILED are set. -/
theorem test_reset_rise_records :
    let s := after (.resetNRise ⟨false, false, false⟩) resetLine
    (s.set? 5).map (·.carried) = some [(0, 70)] ∧ s.flags = 0x1200 ∧ s.transfer = none := by decide +kernel

/-- R71: a list of 3 entries and flushes under accounts 30 and 41 made by one re-derivation, in either order:
the first takes the fourth entry and the other falls into the overflow. -/
theorem test_flushes_in_either_order :
    let held (a : AccountSlot) (e : Nat) : Feeder := { Feeder.cold with
      bound := ⟨some 2, none⟩, account := a, state := .on .A, drive := ⟨true, false⟩, interval := e }
    let s := (port.putSet 2 (some { set3 with carried := [(1, 5), (2, 6), (3, 7)] })).putFeeder 1 (held 30 70)
    let s := s.putFeeder 6 (held 41 90)
    let left (order : List Channel) :=
      ((s.rederiveEach none order).set? 2).map fun r => (r.carried.drop 3, r.overflow)
    s.flushedTogether none = [1, 6] ∧ arrange 0 [1, 6] = [1, 6] ∧ arrange 1 [1, 6] = [6, 1]
    ∧ left [1, 6] = some ([(30, 70)], 90) ∧ left [6, 1] = some ([(41, 90)], 70) := by decide +kernel

/-- R178: Restart does not sample the straps and leaves status NONE. -/
theorem test_restart :
    let s := after .restart { port with flags := 5, result := ⟨.ok, [1]⟩, mask := 3, straps := ⟨true, true, false⟩ }
    s.result = ⟨.none, []⟩ ∧ s.flags = 0 ∧ s.mask = 0xFFFF ∧ s.straps = ⟨true, true, false⟩ := by
  decide +kernel

/-- R179: with SUPPLY_OK low the part starts in HOLDOVER. -/
theorem test_cold_start :
    let s := after (.coldStart ⟨true, false, false⟩ { Pins.quiet with supplyOk := false }) site
    s.mode = .holdover ∧ s.set? 2 = none ∧ s.queue = [] ∧ s.active 8 = false ∧ s.active 7 = true := by
  decide +kernel

/-- R66, R177: FEEDERS8 newly set opens channel 9 and flushes it. -/
theorem test_straps_deactivate :
    let f : Feeder := { Feeder.cold with
      bound := ⟨some 2, none⟩, state := .on .A, drive := ⟨true, false⟩, interval := 30 }
    let low : State := { port with pins := { port.pins with resetN := false } }
    let s := after (.resetNRise ⟨true, false, false⟩) ((low.putSet 2 (some set3)).putFeeder 9 f)
    (s.feeder 9).state = .dark ∧ (s.feeder 9).drive = ⟨false, false⟩
    ∧ (s.set? 2).map (·.carried) = some [(20, 95), (0, 30)] ∧ s.flags = 0 := by decide +kernel

/-! ## Sets -/

/-- R11: an initial tank above the capacity is stored as the capacity. -/
theorem test_hire_set :
    let s := after (.hireSet 99 10 50000 5 0 1000000 50001) port
    s.result = ⟨.clamped, [1, 0x00, 0xC3, 0x50]⟩ ∧ s.flags = 0
    ∧ (s.set? 0).map (fun r => (r.reserve, r.runtime, r.hireStart)) = some (5000, 65535, 1380) := by
  decide +kernel

/-- R11: the checks in order; a tank of 0 enters RESERVE and DRY. -/
theorem test_hire_set_checks :
    (after (.hireSet 70123 9 50000 0 0 0 0) site).result.status = .range
    ∧ (after (.hireSet 70123 10 50000 0 0 0 0) site).result.status = .exists
    ∧ (after (.hireSet 7 10 50000 0 0 0 0) { site with clock := ⟨false, 0, 0, 0⟩ }).result.status = .noClock
    ∧ (after (.hireSet 7 10 50000 0 0 0 0) site).flags = 0x30 := by decide +kernel

/-- R190, R191: the running view's load figures of the worked evaluation (2.5): committed 130,200 W,
headroom 39,800 W once the evaluation has written the demands. -/
theorem test_query_set_running :
    let s := after (.querySet 3 none) (after (.intervalExpiry 2) site)
    s.result.data.length = 50 ∧ s.result.data.drop 42 = be 4 130200 ++ be 4 39800 := by decide +kernel

/-- The energy view: one carried entry, (20, 95). -/
theorem test_query_set_energy :
    (after (.querySet 3 (some 1)) site).result.data.take 12 = [3, 1, 20, 0, 0, 0, 95, 0, 0, 0, 0, 0] := by
  decide +kernel

theorem test_find_set :
    (after (.findSet 70123) site).result = ⟨.ok, [3]⟩ ∧ (after (.findSet 1) site).result = ⟨.noRecord, []⟩ := by
  decide +kernel

/-- The continuation of the worked evaluation (2.5): 25 s, 28 mL, remainder 1,830. -/
theorem test_report_run_stopped :
    let s := after (.intervalExpiry 2) site
    let s := s.updSet 2 fun r => { r with timer := 25400 }
    let t := after (.reportRun 3 0) s
    t.result = ⟨.ok, [3, 0, 25, 0, 28]⟩
    ∧ (t.set? 2).map (fun r => (r.running, r.remainder, r.tank, r.runtime)) = some (false, 1830, 311788, 4676)
    := by decide +kernel

theorem test_report_run_state :
    (after (.reportRun 3 1) site).result = ⟨.state, []⟩ ∧ (after (.reportRun 12 1) site).result = ⟨.ok, [12, 1, 0, 0, 0]⟩
    := by decide +kernel

/-- Set 7 of the conditions over an afternoon (1.5). -/
def afternoon : State :=
  after (.hireSet 7 100 1000000 0 0 0 152000) port

theorem test_amend_set :
    let s := after (.amendSet 1 0 200000 1000 0 0 30) afternoon
    let t := after (.amendSet 1 0 150000 1101 0 0 1) s
    (s.set? 0).map (·.conds.reserve) = some true ∧ s.flags = 0x10
    ∧ (t.set? 0).map (·.conds.reserve) = some false
    ∧ t.result = ⟨.clamped, [1, 0, 0, 2, 0x49, 0xF0, 0x04, 0x4C, 0, 0, 2]⟩ := by decide +kernel

theorem test_dip_set :
    let s := after (.dipSet 1 90000) afternoon
    s.flags = 0x10 ∧ (s.set? 0).map (·.tank) = some 90000
    ∧ (after (.dipSet 1 1000001) afternoon).result.status = .clamped := by decide +kernel

/-- The off-hire statement of 1.6: five started days at 48,000 cents. -/
theorem test_off_hire :
    let s := after (.offHireSet 12) { site with clock := ⟨true, 8650, 0, 0⟩ }
    (s.result.data.drop 11).take 10 = be 3 5770 ++ be 3 5770 ++ be 4 240000 ∧ s.set? 11 = none := by
  decide +kernel

/-- The same with the clock set back: 220 minutes, the minimum hire of 4,320, 144,000 cents. -/
theorem test_off_hire_minimum :
    let s := after (.offHireSet 12) { site with clock := ⟨true, 3100, 0, 0⟩ }
    (s.result.data.drop 11).take 10 = be 3 220 ++ be 3 4320 ++ be 4 144000 := by decide +kernel

/-- The worked evaluation (2.5): load 679, rate 35,055, burn 584 with remainder 2,630, tank 311,816,
runtime 533. -/
theorem test_evaluation_record :
    let s := after (.intervalExpiry 2) site
    (s.set? 2).map (fun r => (r.load, r.rate, r.remainder, r.tank, r.runtime))
      = some (679, 35055, 2630, 311816, 533)
    ∧ (s.set? 2).map (fun r => (r.timer, r.carried, r.runSeconds, r.burned)) = some (0, [], 660, 5584)
    ∧ (s.feeder 4).demand = 91800 ∧ (s.feeder 5).demand = 38400 := by decide +kernel

/-- Its apportionment (4.4): 25, 394 and 165 mL at 189 cents per litre. -/
theorem test_evaluation_shares :
    let s := after (.intervalExpiry 2) site
    (s.account? 20).map (fun r => (r.fuelShare, r.fuelAccrual)) = some (25, 4725)
    ∧ (s.account? 12).map (fun r => (r.fuelShare, r.fuelAccrual)) = some (394, 74466)
    ∧ (s.account? 9).map (fun r => (r.fuelShare, r.fuelAccrual)) = some (165, 31185) := by decide +kernel

/-- Five accounts and an overflow (4.4), and the same after account 40 is retired. -/
theorem test_shares :
    (sharesOf 47 [(31, 300), (14, 550), (22, 150), (40, 60), (5, 90)] 5).map (·.2) = [12, 23, 6, 2, 4]
    ∧ (sharesOf 47 [(31, 300), (14, 550), (22, 150), (5, 150)] 5).map (·.2) = [12, 23, 6, 6]
    ∧ sharesOf 28 [] 0 = [(0, 28)] := by decide +kernel

/-! ## Curves -/

/-- The loading of curve 2 (2.1) after nine points. -/
def loading : State :=
  { port with staging := some ⟨2, [3800, 9000]⟩ }

theorem test_begin_curve :
    (after (.beginCurve 2) { port with staging := some ⟨5, [1, 2, 3, 4]⟩ }).result = ⟨.ok, [2, 5, 4]⟩
    ∧ (after (.beginCurve 2) { port with staging := some ⟨5, []⟩ }).result = ⟨.ok, [2, 0xFF, 0xFF]⟩ := by
  decide +kernel

/-- Row 2 of the loading: 8,700 is raised to 9,000. -/
theorem test_load_point_raised :
    (after (.loadCurvePoint 8700) loading).result = ⟨.clamped, [2, 2] ++ be 3 9000 ++ [0]⟩ := by decide +kernel

/-- Row 10: 260,000 is stored as 250,000 and completes the curve, which gives 145,300 mL/h at 950 per-mille. -/
theorem test_load_point_completes :
    let points := [3800, 9000, 9000, 13500, 17600, 21900, 26400, 30800, 35500, 40600]
    let s := after (.loadCurvePoint 260000) { port with staging := some ⟨2, points⟩ }
    s.result = ⟨.clamped, [2, 10] ++ be 3 250000 ++ [1]⟩ ∧ s.staging = none
    ∧ s.curves[2].complete = true ∧ s.curves[2].rateAt 950 = 145300 := by decide +kernel

theorem test_query_curve :
    (after (.queryCurve 2) loading).result.data
      = [0x22] ++ List.replicate 33 0 ++ be 3 3800 ++ be 3 9000 := by decide +kernel

/-! ## Feeders -/

/-- Feeder 6 of the worked sequence of 3.7: ON_A from set 2, side B bound to set 5. -/
def trader : State :=
  let s := (port.putSet 1 (some { set12 with relief := none })).putSet 4 (some { set12 with unit := 6, relief := none })
  let s := (s.putAccount 14 (some (account 14))).putAccount 22 (some (account 22))
  let s := s.putFeeder 6 { Feeder.cold with
    bound := ⟨some 1, some 4⟩, account := 14, state := .on .A, drive := ⟨true, false⟩, interval := 360 }
  { s with
    tariff := { s.tariff with
      rates := s.tariff.rates.set 1 ⟨420, none⟩
      schedule := Vector.replicate 24 ⟨1, none⟩ }
    pins := { s.pins with feedback := ⟨s.pins.feedback.a.set 6 true, s.pins.feedback.b⟩ } }

/-- One pulse of 10 Wh in band 1 at 420. -/
theorem test_energy_pulse :
    let s := after (.energyPulse 6) trader
    (s.feeder 6).interval = 370 ∧ (s.feeder 6).lifetime = 10
    ∧ (s.account? 14).map (fun r => (r.band[1], r.energyAccrual)) = some (10, 4200) := by decide +kernel

/-- Assign Feeder Account flushes 370 Wh to set 2. -/
theorem test_assign_account :
    let s := after (.assignFeederAccount 6 22) (after (.energyPulse 6) trader)
    s.result = ⟨.ok, [6, 22, 0, 0x01, 0x72, 2]⟩ ∧ (s.set? 1).map (·.carried) = some [(14, 370)]
    ∧ (s.feeder 6).account = 22 := by decide +kernel

/-- FB_A reads open: the timer starts at 0, and is due when it is past 400 ms. -/
theorem test_feedback_change :
    ((after (.feedbackChange 6 .A false) trader).feeder 6).watch = ⟨some 0, none⟩ := by decide +kernel

theorem test_disagreement :
    let open_ := after (.feedbackChange 6 .A false) trader
    let at_ (ms : Nat) := open_.putFeeder 6 { open_.feeder 6 with watch := ⟨some ms, none⟩ }
    let s := after (.disagreementTimerExpiry 6 .A) (at_ 401)
    (s.feeder 6).state = .fault ∧ (s.feeder 6).cause = .unexpectedOpen ∧ s.flags = 0x1000
    ∧ (s.set? 1).map (·.carried) = some [(14, 360)]
    ∧ ((after (.disagreementTimerExpiry 6 .A) (at_ 400)).feeder 6).state = .on .A := by decide +kernel

theorem test_reconcile :
    (after (.reconcileFeeder 7) site).result = ⟨.ok, [7, 0, 0]⟩
    ∧ (after (.reconcileFeeder 4) site).result = ⟨.state, [4, 1, 1]⟩ := by decide +kernel

/-- R58: FB_A still reads closed, so the open check starts; 360 Wh go to set 2. -/
theorem test_open_feeder :
    let s := after (.openFeeder 6) trader
    s.result = ⟨.ok, [6, 0, 1, 0, 0x01, 0x68, 2]⟩ ∧ (s.feeder 6).openCheck = some 400
    ∧ (s.feeder 6).drive = ⟨false, false⟩ := by decide +kernel

/-- R59: the check runs out with the contact closed. -/
theorem test_open_check_deadline :
    let s := after (.openFeeder 6) trader
    let t := after (.openCheckDeadline 6) (s.putFeeder 6 { s.feeder 6 with openCheck := some 0 })
    (t.feeder 6).state = .fault ∧ (t.feeder 6).cause = .stuck ∧ t.flags = 0x1000 := by decide +kernel

theorem test_bind_side :
    (after (.bindSide 6 1 0) trader).result = ⟨.ok, [6, 1, 0]⟩
    ∧ (after (.bindSide 6 0 5) trader).result = ⟨.inUse, []⟩
    ∧ (after (.bindSide 6 0 6) site).result = ⟨.inUse, []⟩ := by decide +kernel

theorem test_feeder_parameters :
    (after (.setFeederParameters 6 100 31) trader).result = ⟨.clamped, [6, 100, 30]⟩
    ∧ (after (.setFeederParameters 6 2 31) trader).result = ⟨.range, []⟩ := by decide +kernel

theorem test_query_feeder :
    (after (.queryFeeder 6) trader).result.data.take 13 = [6, 2, 5, 14, 10, 5, 1, 0, 2, 0x05, 0, 1, 0x68] := by
  decide +kernel

/-- The seven flushes of 4.1. -/
theorem test_carried_list :
    let r := [(31, 200), (14, 370), (22, 120), (31, 100), (40, 60), (47, 90), (22, 30)].foldl
      (fun (r : SetRec) (p : AccountSlot × Nat) => r.carry p.1 p.2) set12
    r.carried = [(31, 300), (14, 370), (22, 150), (40, 60)] ∧ r.overflow = 90 := by decide +kernel

/-! ## Orders and transfers -/

/-- The reserve crossing of 5.9, reduced: the queue's seven orders and the feeders of set 14. -/
def crossing : State :=
  let order (f : Channel) (d : Side) (m n : Nat) (o : Origin) : Order := ⟨f, d, m, n, o, .notDue⟩
  let s := (port.putSet 13 (some { set3 with
    rating := 400, capacity := 1000000, reserve := 120000, relief := some 15, window := 45, tank := 120900, runtime := 207
    remainder := 0, carried := [], curve := 1, loadLimit := 1000 })).putSet 15
    (some { set3 with unit := 16, rating := 500, loadLimit := 900, runtime := 410, timer := 5, expiring := false })
  let on (demand : Nat) (b : SetSlot) : Feeder := { Feeder.cold with
    bound := ⟨some 13, some b⟩, state := .on .A, drive := ⟨true, false⟩, demand := demand }
  let s := (((s.putFeeder 1 (on 72000 15)).putFeeder 2 (on 58000 15)).putFeeder 9 (on 41000 15)).putFeeder 10
    (on 30000 6)
  { s with
    clock := ⟨true, 1260, 0, 0⟩
    curves := s.curves.set 1 ⟨Vector.replicate 11 69000, true⟩
    queue := [order 5 .B 1200 1290 .operator, order 12 .A 1230 1300 .relief, order 3 .B 1245 1320 .operator,
      order 1 .B 1275 1330 .operator, order 7 .A 1290 1350 .operator, order 0 .B 1320 1380 .operator,
      order 13 .A 1320 1400 .operator] }

/-- The debit of 1,150 mL enters RESERVE; feeder 2's order joins at place 3 and feeder 9's is dropped. -/
theorem test_relief :
    let s := (crossing.evaluate 13 60).1
    (s.set? 13).map (·.tank) = some 119750
    ∧ s.queue.map (·.feeder) = [5, 12, 3, 2, 1, 7, 0, 13]
    ∧ s.queue[3]? = some ⟨2, .B, 1260, 1305, .relief, .notDue⟩ ∧ s.flags = 0x0810 := by decide +kernel

/-- Feeder 8 of the worked transfer (6.5): ON_A from set 4, side B bound to set 6. -/
def bar : State :=
  let calm : SetRec := { set3 with timer := 5, expiring := false }
  let s := (port.putSet 3 (some calm)).putSet 5 (some { calm with unit := 6, rating := 2000 })
  let s := (s.putAccount 17 (some (account 17))).putAccount 20 (some (account 20))
  let s := s.putFeeder 8 { Feeder.cold with
    bound := ⟨some 3, some 5⟩, account := 17, state := .on .A, demand := 45000, interval := 260
    drive := ⟨true, false⟩ }
  { s with pins := { s.pins with feedback := ⟨s.pins.feedback.a.set 8 true, s.pins.feedback.b⟩ } }

/-- 0 ms: the order is handed over at once; the take flushes 260 Wh and opens DRIVE_A. -/
theorem test_enqueue_handed_over :
    let s := after (.enqueueOrder 8 1 1380 1400) bar
    s.result = ⟨.ok, [8, 1, 1, 0xFF, 0xFF, 0]⟩
    ∧ s.transfer = some ⟨8, some .A, .B, 5, .opening, false, none, 400, 0⟩
    ∧ (s.feeder 8).drive = ⟨false, false⟩ ∧ (s.feeder 8).interval = 0
    ∧ (s.set? 3).map (·.carried) = some [(20, 95), (17, 260)] := by decide +kernel

/-- An order that is not due waits at place 0; a second one for the feeder is refused. -/
theorem test_enqueue_waits :
    let s := after (.enqueueOrder 8 1 1390 1400) bar
    s.result = ⟨.ok, [8, 1, 0, 0, 0, 1]⟩
    ∧ (after (.enqueueOrder 8 1 1390 1391) bar).result = ⟨.range, []⟩
    ∧ (after (.enqueueOrder 8 1 1390 1392) s).result = ⟨.exists, []⟩ := by decide +kernel

theorem test_cancel_order :
    let s := after (.cancelOrder 6) site
    s.result = ⟨.ok, [6, 0, 0, 0]⟩ ∧ (s.feeder 6).last = some ⟨.A, .cancelled, .hostCancel, 1380⟩ := by
  decide +kernel

/-- R192: feeder 6, side A, set 6, OPERATOR, NOT_DUE, from 1,300 (00514h) to 1,400 (00578h). -/
theorem test_query_queue :
    (after .queryQueue site).result = ⟨.ok, [1, 0, 0x61, 0x80, 0x00, 0x51, 0x40, 0x05, 0x78]⟩ := by
  decide +kernel

theorem test_transfer_parameters :
    (after (.setTransferParameters 49 2001 601) port).result = ⟨.clamped, [0, 50, 0x07, 0xD0, 0x02, 0x58]⟩ := by
  decide +kernel

/-- 38 ms: FB_A reads open and DEAD begins. -/
def barDead : State := after (.feedbackChange 8 .A false) (after (.enqueueOrder 8 1 1380 1400) bar)

theorem test_transfer_opening :
    barDead.transfer = some ⟨8, some .A, .B, 5, .dead, false, none, 5000, 0⟩ := by decide +kernel

/-- The transfer in hand with its deadline run out. -/
def runOut (s : State) : State := { s with transfer := s.transfer.map fun t => { t with deadline := 0 } }

/-- 5,038 ms: the dead time expires with set 6 RUNNING. -/
def barClosing : State := after .deadTimeExpiry (runOut barDead)

theorem test_dead_time :
    barClosing.transfer = some ⟨8, some .A, .B, 5, .closing, false, none, 400, 0⟩
    ∧ (barClosing.feeder 8).drive = ⟨false, true⟩ := by decide +kernel

/-- 5,438 ms: the close timeout; DRIVE_B opened, DRIVE_A closed. -/
def barFallback : State := after .closeTimeout (runOut barClosing)

theorem test_close_timeout :
    barFallback.transfer = some ⟨8, some .A, .B, 5, .fallback, false, some .closeTimeout, 400, 0⟩
    ∧ (barFallback.feeder 8).drive = ⟨true, false⟩ := by decide +kernel

/-- 5,471 ms: FB_A reads closed and the transfer ends FAILED, CLOSE_TIMEOUT. -/
theorem test_fallback_proven :
    let s := after (.feedbackChange 8 .A true) barFallback
    s.transfer = none ∧ (s.feeder 8).state = .on .A
    ∧ (s.feeder 8).last = some ⟨.B, .failed, .closeTimeout, 1380⟩ ∧ s.flags = 0x0200 := by decide +kernel

/-- Had the fallback failed too: FAULT, STUCK, both flags. -/
theorem test_fallback_timeout :
    let s := after .fallbackTimeout (runOut barFallback)
    (s.feeder 8).state = .fault ∧ (s.feeder 8).cause = .stuck ∧ (s.feeder 8).drive = ⟨false, false⟩
    ∧ (s.feeder 8).last = some ⟨.B, .failed, .fallbackTimeout, 1380⟩ ∧ s.flags = 0x1200 := by decide +kernel

/-- R108: the open timeout closes the old side again. -/
theorem test_open_timeout :
    let s := after .openTimeout (runOut (after (.enqueueOrder 8 1 1380 1400) bar))
    (s.feeder 8).state = .on .A ∧ (s.feeder 8).drive = ⟨true, false⟩
    ∧ (s.feeder 8).last = some ⟨.B, .failed, .openTimeout, 1380⟩ := by decide +kernel

/-- Feeder 8 DARK, with an order to side B: CLOSING begins at the take, and after the close timeout the
releasing part. -/
def barDark : State :=
  let s := bar.putFeeder 8 { bar.feeder 8 with state := .dark, drive := ⟨false, false⟩ }
  after (.enqueueOrder 8 1 1380 1400) { s with pins := Pins.quiet }

theorem test_close_from_dark :
    barDark.transfer = some ⟨8, none, .B, 5, .closing, false, none, 400, 0⟩
    ∧ (after .closeTimeout (runOut barDark)).transfer = none
    ∧ ((after .closeTimeout (runOut barDark)).feeder 8).state = .dark := by decide +kernel

/-- R114, CLOSING from DARK with FB_T's change to closed at the same moment as the deadline and the deadline
taken first: releasing begins, the closed contact does not end it, and its reopening proves the release. -/
theorem test_close_timeout_before_feedback :
    let shut : Instr := .feedbackChange 8 .B true
    let begun := after .closeTimeout { runOut barDark with pending := [.feedbackChange 8 .A true, shut] }
    let closed := after shut (after (.feedbackChange 8 .A true) begun)
    let opened := after (.feedbackChange 8 .B false) closed
    begun.transfer = some ⟨8, none, .B, 5, .closing, true, none, 400, 0⟩
    ∧ (begun.feeder 8).drive = ⟨false, false⟩ ∧ closed.transfer = begun.transfer ∧ opened.transfer = none
    ∧ (opened.feeder 8).state = .dark
    ∧ (opened.feeder 8).last = some ⟨.B, .failed, .closeTimeout, 1380⟩ := by decide +kernel

/-- R98, R99: one scan makes at most one hand-over. Both feeders are DARK with the contact they are to close
reading closed already: feeder 1 is ON_B in the take, and feeder 2's order waits with SEQUENCER_BUSY. -/
theorem test_scan_once :
    let order (f : Channel) : Order := ⟨f, .B, 1380, 1400, .operator, .notDue⟩
    let f : Feeder := { Feeder.cold with bound := ⟨none, some 5⟩ }
    let s := (((bar.putFeeder 1 f).putFeeder 2 f).setFeedback 1 .B true).setFeedback 2 .B true
    let t := ({ s with queue := [order 1, order 2] } : State).scan
    (t.feeder 1).state = .on .B ∧ t.transfer = none
    ∧ t.queue = [{ order 2 with wait := .sequencerBusy }] := by decide +kernel

/-- R111: with FB_B closed at neither edge the releasing part runs out, and the contact is stuck. -/
theorem test_release_deadline :
    let late := runOut barDark
    let shut : State := { late with pins := { late.pins with
      feedback := ⟨late.pins.feedback.a, late.pins.feedback.b.set 8 true⟩ } }
    let s := after .releaseDeadline (runOut (after .closeTimeout shut))
    (s.feeder 8).state = .fault ∧ (s.feeder 8).cause = .stuck ∧ s.flags = 0x1200 := by decide +kernel

/-- The last-outcome record of the worked transfer: feeder 8, from A (set 4), to B (set 6), FAILED,
CLOSE_TIMEOUT, in FALLBACK, minute 1,380, 5,471 ms. -/
theorem test_query_sequencer :
    let s : State := { barFallback with transfer := barFallback.transfer.map fun t => { t with elapsed := 5471 } }
    let t := after .querySequencer (after (.feedbackChange 8 .A true) s)
    t.result.data.take 25 = List.replicate 12 0 ++ [8, 0, 4, 1, 6, 2, 2, 4, 0, 0x05, 0x64, 0x15, 0x5F] := by
  decide +kernel

/-! ## Deliveries -/

theorem test_register_supplier :
    (after (.registerSupplier 0 40117) site).result = ⟨.ok, [0, 0x00, 0x9C, 0xB5]⟩
    ∧ (after (.registerSupplier 1 5) site).result = ⟨.exists, []⟩ := by decide +kernel

theorem test_query_supplier :
    (after (.querySupplier 1) site).result
      = ⟨.ok, [1, 1, 0x00, 0x9C, 0xB5, 0, 0, 0, 0, 0, 0, 0, 0, 1, 2, 3]⟩ := by decide +kernel

/-- The ticket of 7.7: 400,000 mL clamped to the headroom of 330,000. -/
theorem test_open_ticket :
    let s := site.updSet 2 fun r => { r with capacity := 1200000, tank := 870000 }
    (after (.openTicket 0 3 1 400000) s).result
      = ⟨.clamped, [0, 3, 1] ++ be 3 330000 ++ be 3 330000 ++ be 3 40117⟩
    ∧ (after (.openTicket 0 3 2 1) s).result = ⟨.full, []⟩
    ∧ (after (.openTicket 0 3 0 1) s).result = ⟨.noSupplier, []⟩ := by decide +kernel

theorem test_permit_mode :
    (after (.setPermitMode 3 0) site).result = ⟨.sequence, [3, 2, 1]⟩
    ∧ (after (.setPermitMode 3 1) site).result = ⟨.ok, [3, 1, 0]⟩ := by decide +kernel

/-- 7.7: pulse 1,500 reaches the preset, and in AUTO the permit goes off. -/
theorem test_fuel_pulse_preset :
    let s := after (.fuelPulse 2) site
    ((s.position 2).ticket.map fun t => (t.delivered, t.remaining, t.preset)) = some (330000, 0, true)
    ∧ s.flags = 0x0001 ∧ (s.position 2).permitOn = false ∧ (site.position 2).permitOn = true := by
  decide +kernel

/-- 7.7: a pulse at a PAUSED ticket is stray. R129: an order of 170 mL reaches its preset with −30 mL. -/
theorem test_fuel_pulse_stray :
    ((after (.fuelPulse 3) site).position 3).stray = 300 ∧ (after (.fuelPulse 3) site).flags = 0x8000
    ∧ (Ticket.pulsed ⟨.dispensing, 2, 1, 170, 70, 100, 0, 0, 1, false, false⟩ 100).remaining = -30 := by
  decide +kernel

/-- 7.7, the second run ends: an increment of 149,900 mL from the lift mark of 180,000. -/
theorem test_hang_up :
    let s := after (.hangUp 2) site
    ((s.position 2).ticket.map fun t => (t.state, t.credited)) = some (.paused, 329900)
    ∧ (s.set? 2).map (fun r => (r.tank, r.credited)) = some (462300, 149900) ∧ s.flags = 0x0002 := by
  decide +kernel

/-- R132: what the tank has no room for is overfill. -/
theorem test_hang_up_overfill :
    let s := after (.hangUp 2) (site.updSet 2 fun r => { r with tank := 700000 })
    (s.set? 2).map (fun r => (r.tank, r.overfill)) = some (800000, 49900) ∧ s.flags = 0x0006 := by
  decide +kernel

theorem test_nozzle_lift :
    let s := after (.nozzleLift 3) site
    ((s.position 3).ticket.map fun t => (t.state, t.lifts, t.liftMark)) = some (.dispensing, 3, 332300) := by
  decide +kernel

/-- 7.7: the close with docket 40,118 is refused with DOCKET, that with 40,117 is taken. -/
theorem test_close_ticket :
    (after (.closeTicket 3 40118) site).result = ⟨.docket, [3] ++ be 3 40117 ++ [3]⟩
    ∧ (after (.closeTicket 3 40117) site).result.data =
      [3, 3, 1] ++ be 3 40117 ++ be 3 330000 ++ [0xFF, 0xFF, 0xF7, 0x04] ++ be 3 332300 ++ be 3 332300
        ++ [2, 1] ++ be 3 40118
    ∧ (after (.closeTicket 3 40117) site).supplier 1 = ⟨.next 40118, 1, 332300⟩ := by decide +kernel

theorem test_cancel_ticket :
    (after (.cancelTicket 1) site).result = ⟨.ok, [1, 3, 1]⟩
    ∧ (after (.cancelTicket 2) site).result = ⟨.state, []⟩ := by decide +kernel

theorem test_query_position :
    (after (.queryPosition 3) site).result.data.take 17
      = [3, 2, 1, 0, 0, 200, 3, 1, 3, 1] ++ be 3 330000 ++ [0xFF, 0xFF, 0xF7, 0x04] := by decide +kernel

/-! ## Accounts and tariff -/

/-- R149: the lowest free slot is 1. -/
theorem test_open_account :
    (after (.openAccount 77 [0x41]) site).result = ⟨.ok, [1, 0x00, 0x05, 0x64]⟩
    ∧ (after (.openAccount 30412 []) site).result = ⟨.exists, []⟩ := by decide +kernel

/-- R191: feeder 4 names account 12; one carried entry of 95 Wh stands under account 20. -/
theorem test_query_account :
    (after (.queryAccount 12) site).result.data.drop 58 = [0x04, 0x00, 0, 0, 0, 0]
    ∧ (after (.queryAccount 20) site).result.data.drop 58 = [0x00, 0x01, 0, 0, 0, 95] := by decide +kernel

theorem test_find_account : (after (.findAccount 30412) site).result = ⟨.ok, [12]⟩ := by decide +kernel

/-- Account 12 of the worked settlement (8.7) at minute 2,881. -/
def foodCourt : State :=
  { site.putAccount 12 (some { account 30412 with
      nextStatement := 7, band := #v[12000, 0, 4500, 0], energyAccrual := 5625000, fuelShare := 2340
      fuelAccrual := 442260 }) with
    clock := ⟨true, 2881, 0, 0⟩ }

theorem test_settle_account :
    let s := after (.settleAccount 12) foodCourt
    s.result = ⟨.ok, [12, 0, 7] ++ be 5 563 ++ be 5 442 ++ be 5 1005⟩
    ∧ (s.account? 12).map (fun r => (r.periodStart, r.nextStatement, r.energyAccrual)) = some (2881, 8, 0) := by
  decide +kernel

theorem test_fetch_statement :
    let s := after (.settleAccount 12) foodCourt
    (after (.fetchStatement 12) s).result.data.take 13
      = [12, 0, 0, 0x76, 0xCC, 0, 7] ++ be 3 1440 ++ be 3 2881
    ∧ (after (.settleAccount 12) s).result = ⟨.pending, []⟩
    ∧ (after (.releaseStatement 12) s).result = ⟨.ok, [12, 0, 7]⟩ := by decide +kernel

theorem test_holds :
    let s := after (.placeHold 12) (after (.placeHold 9) foodCourt)
    s.result = ⟨.ok, [12, 2]⟩ ∧ (after (.settleAccount 12) s).result = ⟨.held, []⟩
    ∧ (after .releaseAllHolds s).result = ⟨.ok, [2]⟩ := by decide +kernel

/-- R73, R153: the entry (20, 95) moves into the overflow; account 12 is named by feeder 4. -/
theorem test_retire_account :
    let s := after (.retireAccount 20) site
    s.result = ⟨.ok, [20, 0, 0, 0, 20, 1, 0, 0, 0, 95]⟩
    ∧ (s.set? 2).map (fun r => (r.carried, r.overflow)) = some ([], 95)
    ∧ (after (.retireAccount 12) site).result = ⟨.inUse, []⟩
    ∧ (after (.retireAccount 12) foodCourt).result = ⟨.unsettled, []⟩ := by decide +kernel

/-- The price change across an evening (8.4), at minute 1,139. -/
def evening : State :=
  let t := port.tariff
  { port with
    clock := ⟨true, 1139, 59, 1000⟩
    tariff := { t with
      rates := (t.rates.set 2 ⟨450, none⟩).set 3 ⟨520, none⟩
      schedule := ((t.schedule.set 18 ⟨2, none⟩).set 19 ⟨2, none⟩).set 20 ⟨1, none⟩ } }

theorem test_band_rate :
    (after (.setBandRate 2 480) evening).result = ⟨.ok, [2, 0x01, 0xC2, 0x01, 0xE0]⟩
    ∧ (after (.setBandRate 4 480) evening).result = ⟨.range, []⟩ := by decide +kernel

theorem test_schedule_slot :
    let s := after (.setScheduleSlot 19 3) (after (.setBandRate 2 480) evening)
    s.result = ⟨.ok, [19, 2, 3]⟩ ∧ s.rateInForce = 450
    ∧ (after .siteSecondAdvance s).rateInForce = 520
    ∧ ((after .siteSecondAdvance s).tariff.rates[2]).live = 480 := by decide +kernel

theorem test_fuel_price :
    (after (.setFuelPrice 200) site).result = ⟨.ok, [0, 189, 0, 200]⟩ := by decide +kernel

/-- R193: hours 18, 19 and 20 in bytes 25 and 26; band 2 in force at 450. -/
theorem test_query_tariff :
    (after .queryTariff evening).result.data.drop 25
      = [0x0A, 0x40, 0, 0, 0, 0, 0, 0, 0, 0, 0, 18, 2, 0x01, 0xC2] := by decide +kernel

/-! ## The step -/

/-- The state a step leads to. -/
def stepped (s : State) : State :=
  match step s with
  | .next t => t
  | _ => s

/-- The command in front is run and leaves the queue. -/
theorem test_step_takes_front :
    let t := stepped { port with pending := [.setFuelPrice 9, .identify] }
    t.pending = [.identify] ∧ t.tariff.price.waiting = some 9 := by decide +kernel

/-- An empty queue lets a millisecond pass. -/
theorem test_step_idles : (stepped port).uptime = 1 ∧ (stepped port).clock.millis = 1 := by decide +kernel

/-! ## States and operands that meet the hypotheses of the statements -/

/-- The clock invalid. -/
def noClock (s : State) : State := { s with clock := ⟨false, 0, 0, 0⟩ }

/-- The site in one of the closed modes, and with RESET_N low. -/
def dark (s : State) : State := { s with mode := .holdover }
def held (s : State) : State := { s with pins := { s.pins with resetN := false }, flags := 0 }

/-- The site with channels 8 to 15 inactive. -/
def half : State := { site with straps := ⟨true, false, false⟩ }

theorem witness_portOpen : port.portOpen = true ∧ site.portOpen = true ∧ bar.portOpen = true := by
  decide +kernel

theorem witness_IdleStepTakesAnExpiryOrAMillisecond :
    (port.pending = [] ∧ port.dueEvents = [])
    ∧ (site.pending = [] ∧ site.dueEvents = [.intervalExpiry 2])
    ∧ ({ site with clock := ⟨true, 1380, 10, 1000⟩ } : State).dueEvents.length = 2
    ∧ (crossing.set? 15).map (fun r => (r.running, r.timer)) = some (true, 5)
    ∧ site.set? 11 = some set12 ∧ set12.running = false
    ∧ ({ port with mode := .resuming 0 } : State).mode = .resuming 0
    ∧ (set3.running = true ∧ set3.timer = 59999) ∧ site.set? 23 = none
    ∧ (port.mode = .active ∧ (dark site).mode = .holdover)
    ∧ (half.active 8 = false ∧ half.active 7 = true) := by decide +kernel

theorem witness_ImproperFramesAreIgnoredOrRefused :
    countsOf (0x17 : Byte).toNat = none ∧ countsOf (0x06 : Byte).toNat = some [3]
    ∧ 40 < (41 : Byte).toNat ∧ (2 : Byte).toNat ∉ [3]
    ∧ ((0x06 : Byte).toNat ≠ 1 ∧ (0x06 : Byte).toNat ≠ 2
        ∧ ([0, 0] : List Byte).length ≠ (3 : Byte).toNat)
    ∧ ((framed [0x17, 9] 0).bytes = [0x17, 9] ∧ (framed [0x06] 5).bytes = [0x06]
        ∧ (framed [0x06, 3, 0, 0] 2).bytes = [0x06, 3, 0, 0] ∧ (framed [0x06, 3, 0, 0, 9] 2).bits.length % 8 ≠ 0)
    := by decide +kernel

theorem witness_FramesSpellTheirCommands :
    (Instr.openAccount 9 (List.replicate 16 0x41)).wf = true
    ∧ frameOf (.openAccount 9 (List.replicate 16 0x41))
        = some (framed ([0x50, 20, 0, 0, 0, 9] ++ List.replicate 16 0x41) 0)
    ∧ frameOf (.readAttention 9) = some (.sent [2, 0, 0] [false]) ∧ ∀ n, Instr.identify ≠ .readAttention n :=
  ⟨by decide +kernel, by decide +kernel, by decide +kernel, fun _ h => by cases h⟩

theorem witness_ClosedPortTakesNoFrame :
    (dark site).portOpen = false ∧ (held site).portOpen = false
    ∧ (wire (.setClock 5)).isSome = true := by decide +kernel

theorem witness_RefusedCommandsChangeNothing :
    (wire (.setClock 1048576)).isSome = true
    ∧ (match exec (.setClock 1048576) site with
        | .next t => t.result.status
        | _ => .none) = .range
    ∧ Status.range.refuses = true := by decide +kernel

theorem witness_OperandsThatNameNothingAreRefused :
    (0 : Byte).toNat = 0 ∧ 24 < (25 : Byte).toNat
    ∧ ((24 : Byte).toNat = (23 : SetSlot).val + 1 ∧ site.set? 23 = none ∧ (1 : Byte).toNat ≤ 1)
    ∧ 16 ≤ (16 : Byte).toNat
    ∧ ((8 : Byte).toNat = (8 : Channel).val ∧ half.active 8 = false ∧ half.portOpen = true)
    ∧ ((3 : Byte).toNat = (2 : SetSlot).val + 1 ∧ (site.set? 2).isSome = true
        ∧ ((5 : Byte).toNat < 6 ∧ (22 : Byte).toNat = (22 : AccountSlot).val ∧ (site.account? 22).isSome = true)
        ∧ ((25 : Byte).toNat > 24 ∧ (24 : Byte).toNat = (23 : SetSlot).val + 1 ∧ (23 : SetSlot) ≠ 2))
    ∧ 2 ≤ (2 : Byte).toNat
    ∧ 4 ≤ (4 : Byte).toNat ∧ 6 ≤ (6 : Byte).toNat ∧ 24 ≤ (24 : Byte).toNat ∧ 64 ≤ (64 : Byte).toNat
    ∧ ((63 : Byte).toNat = (63 : AccountSlot).val ∧ site.account? 63 = none ∧ (63 : AccountSlot) ≠ 0) := by
  decide +kernel

/-- The only hired set of the site with this unit number stands in slot 3. -/
theorem witness_SetAndCurveReadouts :
    ((3 : Byte).toNat = (2 : SetSlot).val + 1 ∧ site.set? 2 = some set3)
    ∧ (((none : Option Byte).getD 0).toNat = 0 ∧ ((some (1 : Byte)).getD 0).toNat = 1
        ∧ 2 ≤ ((some (2 : Byte)).getD 0).toNat)
    ∧ (∀ j q, site.set? j = some q → q.unit = 70123 → j = 2)
    ∧ (∀ j q, site.set? j = some q → q.unit ≠ 1)
    ∧ ((5 : Byte).toNat = (5 : CurveNo).val ∧ loading.staging = some ⟨2, [3800, 9000]⟩) :=
  ⟨by decide +kernel, by decide +kernel,
    fun j q h => (by decide +kernel : ∀ j, ∀ q ∈ site.set? j, q.unit = 70123 → j = 2) j q h,
    fun j q h => (by decide +kernel : ∀ j, ∀ q ∈ site.set? j, q.unit ≠ 1) j q h, by decide +kernel⟩

theorem witness_FeederQueueAndSequencerReadouts :
    (15 : Byte).toNat = (15 : Channel).val ∧ site.active 15 = true := by decide +kernel

theorem witness_FuelAndAccountReadouts :
    ((3 : Byte).toNat = (3 : PositionNo).val ∧ (3 : Byte).toNat = (3 : SupplierNo).val)
    ∧ ((12 : Byte).toNat = (12 : AccountSlot).val ∧ site.account? 12 = some (account 30412)
        ∧ (account 30412).label.length ≤ 16 ∧ (account 30412).statement = none)
    ∧ (∀ j q, site.account? j = some q → q.code = 30412 → j = 12)
    ∧ (∀ j q, site.account? j = some q → q.code ≠ 1)
    ∧ (((after (.settleAccount 12) foodCourt).account? 12).bind (·.statement)).isSome = true :=
  ⟨by decide +kernel, by decide +kernel,
    fun j q h => (by decide +kernel : ∀ j, ∀ q ∈ site.account? j, q.code = 30412 → j = 12) j q h,
    fun j q h => (by decide +kernel : ∀ j, ∀ q ∈ site.account? j, q.code ≠ 1) j q h, by decide +kernel⟩

theorem witness_SetClockMovesTheMinute :
    1048575 < (1048576 : BitVec 24).toNat ∧ (1048575 : BitVec 24).toNat ≤ 1048575 := by decide +kernel

theorem witness_SecondsAndMinutesAdvance :
    let at_ (m s ms : Nat) : State := { port with clock := ⟨true, m, s, ms⟩ }
    ((at_ 1380 58 1000).clock.valid = true ∧ 1000 ≤ (at_ 1380 58 1000).clock.millis
        ∧ (at_ 1380 58 1000).clock.second < 59)
    ∧ (59 ≤ (at_ 1048575 59 1000).clock.second ∧ 1048575 ≤ (at_ 1048575 59 1000).clock.minute)
    ∧ (59 ≤ (at_ 1048574 59 1000).clock.second ∧ (at_ 1048574 59 1000).clock.minute < 1048575)
    ∧ (at_ 1380 59 999).clock.millis < 1000 ∧ (noClock port).clock.valid = false := by decide +kernel

/-- The site at the end minute of its order. -/
def ended : State := { site with clock := ⟨true, 1400, 0, 0⟩ }

theorem witness_EndedOrdersExpire :
    ended.clock.valid = true ∧ (ended.queue.map (·.feeder)).Nodup
    ∧ (⟨6, .A, 1300, 1400, .operator, .notDue⟩ : Order) ∈ ended.queue ∧ 1400 ≤ ended.clock.minute
    ∧ ∀ o ∈ ended.queue, o.endMin ≤ ended.clock.minute → o.feeder ≠ 5 := by decide +kernel

theorem witness_SupplyModesFollowTheLine :
    port.pins.supplyOk = true ∧ (after .supplyOkFall port).pins.supplyOk = false
    ∧ ({ port with mode := .resuming 2000 } : State).mode = .resuming 2000
    ∧ ({ port with mode := .resuming 1999 } : State).mode = .resuming 1999
    ∧ port.mode = .active ∧ (dark port).mode = .holdover := by decide +kernel

theorem resetLine_wired : resetLine.Wired where
  drives := by decide +kernel
  holds := by decide +kernel
  causes := by decide +kernel
  transfers := by decide +kernel
  orders := by decide +kernel
  oneOrder := by decide +kernel
  inOrder := by decide +kernel
  atMostEight := by decide +kernel
  openChecks := by decide +kernel
  inactive := by decide +kernel
  closedBound := by
    intro ch d
    cases d <;> revert ch <;> decide +kernel
  targetBound := by decide +kernel
  transferBound := by decide +kernel

/-- At the rise, FEEDERS8 sampled set makes channel 8 inactive and keeps channel 7 active; feeder 3 is the
transfer's, and Restart meets a transfer too. -/
theorem witness_ResetsClearThePortAndKeepTheRecords :
    port.pins.resetN = true ∧ port.portOpen = true ∧ resetLine.pins.resetN = false
    ∧ resetLine.transfer.map (·.feeder) = some 3 ∧ resetLine.queue = [] ∧ resetLine.Wired
    ∧ (let n : State := { resetLine with straps := ⟨true, false, false⟩ }
       resetLine.active 8 = true ∧ n.active 8 = false ∧ n.active 7 = true ∧ n.active 3 = true)
    ∧ (half.active 15 = false ∧ half.portOpen = true) :=
  ⟨by decide +kernel, by decide +kernel, by decide +kernel, by decide +kernel, by decide +kernel,
    resetLine_wired, by decide +kernel, by decide +kernel⟩

/-- Feeder 6 of the site with both its contacts closed. -/
def stuckShut : State :=
  after (.feedbackChange 6 .B true) (after (.feedbackChange 6 .A true) site)

theorem witness_RederivationFollowsTheContacts :
    let f (s : State) (ch : Channel) := ((s.feeder ch).drive, s.fbClosed ch .A, s.fbClosed ch .B)
    f site 6 = (⟨false, false⟩, false, false) ∧ f site 4 = (⟨true, false⟩, true, false)
    ∧ f site 5 = (⟨false, true⟩, false, true) ∧ f stuckShut 6 = (⟨false, false⟩, true, true)
    ∧ (stuckShut.orderFor 6).isSome = true ∧ resetLine.orderFor 1 = none
    ∧ f resetLine 1 = (⟨false, true⟩, false, false) := by decide +kernel

/-- Every slot hired. -/
def fullTable : State :=
  { site with sets := Vector.ofFn fun i : Fin 24 => some { set12 with unit := BitVec.ofNat 32 i.val } }

theorem witness_HireSetFillsTheLowestFreeSlot :
    let inRange (rating : BitVec 16) (capacity : BitVec 32) (curve : Byte) (minHire : BitVec 16)
        (dayRate : BitVec 32) : Prop :=
      (10 ≤ rating.toNat ∧ rating.toNat ≤ 2000) ∧ (50000 ≤ capacity.toNat ∧ capacity.toNat ≤ 4000000)
        ∧ curve.toNat ≤ 5 ∧ minHire.toNat ≤ 43200 ∧ dayRate.toNat ≤ 1000000
    (inRange 10 50000 0 0 0 ∧ inRange 2000 4000000 5 43200 1000000 ∧ ¬ inRange 9 50000 0 0 0)
    ∧ (noClock site).clock.valid = false ∧ site.clock.valid = true
    ∧ (∃ j q, site.set? j = some q ∧ q.unit = 70123)
    ∧ ((¬ ∃ j q, fullTable.set? j = some q ∧ q.unit = 99) ∧ ∀ j, (fullTable.set? j).isSome = true)
    ∧ ((¬ ∃ j q, site.set? j = some q ∧ q.unit = 99) ∧ site.set? 0 = none
        ∧ (∀ j : SetSlot, j < 0 → (site.set? j).isSome = true) ∧ (5 : Byte).toNat = (5 : CurveNo).val) :=
  ⟨by decide +kernel, by decide +kernel, by decide +kernel, ⟨2, set3, by decide +kernel⟩,
    ⟨fun ⟨j, q, h, e⟩ => (by decide +kernel : ∀ j, ∀ q ∈ fullTable.set? j, q.unit ≠ 99) j q h e,
      by decide +kernel⟩,
    ⟨fun ⟨j, q, h, e⟩ => (by decide +kernel : ∀ j, ∀ q ∈ site.set? j, q.unit ≠ 99) j q h e,
      by decide +kernel⟩⟩

theorem witness_ReportRunStartsAndStopsASet :
    (3 : Byte).toNat = (2 : SetSlot).val + 1 ∧ site.set? 2 = some set3 ∧ set3.running = true
    ∧ (12 : Byte).toNat = (11 : SetSlot).val + 1 ∧ site.set? 11 = some set12 ∧ set12.running = false
    ∧ (0 : Byte).toNat = 0 ∧ (1 : Byte).toNat = 1 ∧ 2 ≤ (2 : Byte).toNat := by decide +kernel

theorem witness_AmendAndDipWriteTheRecord :
    (3 : Byte).toNat = (2 : SetSlot).val + 1 ∧ site.set? 2 = some set3
    ∧ (5 : Byte).toNat = (5 : CurveNo).val ∧ (22 : Byte).toNat = (22 : AccountSlot).val
    ∧ (site.account? 22).isSome = true ∧ (12 : Byte).toNat = slotCode (some 11)
    ∧ (some 11 : Option SetSlot) ≠ some 2
    ∧ (∀ j, (some 11 : Option SetSlot) = some j → (site.set? j).isSome = true)
    ∧ (0 : Byte).toNat = slotCode none := by decide +kernel

theorem witness_OffHireSetBuildsTheStatementAndFreesTheSlot :
    ((12 : Byte).toNat = (11 : SetSlot).val + 1 ∧ site.set? 11 = some set12 ∧ set12.running = false)
    ∧ site.clock.valid = true ∧ (noClock site).clock.valid = false
    ∧ (site.set? 2 = some set3 ∧ set3.running = true)
    ∧ ((site.set? 5).map (·.running) = some false
        ∧ ∃ (ch : Channel) (d : Side), (site.feeder ch).bound.get d = some 5)
    ∧ ¬ ((∃ ch d, (site.feeder ch).bound.get d = some 11)
        ∨ ∃ p t, (site.position p).ticket = some t ∧ t.set = 11) := by
  refine ⟨by decide +kernel, by decide +kernel, by decide +kernel, by decide +kernel,
    ⟨by decide +kernel, 6, .A, by decide +kernel⟩, ?_⟩
  rintro (⟨ch, d, h⟩ | ⟨p, t, h, e⟩)
  · have := (by decide +kernel : ∀ ch,
      (site.feeder ch).bound.get .A ≠ some 11 ∧ (site.feeder ch).bound.get .B ≠ some 11) ch
    cases d <;> simp_all
  · exact (by decide +kernel : ∀ p, ∀ t ∈ (site.position p).ticket, t.set ≠ 11) p t h e

theorem witness_IntervalExpiryEvaluatesASet :
    site.set? 2 = some set3 ∧ set3.running = true ∧ set3.expiring = true
    ∧ ∀ r, site.set? 11 = some r → r.running = false ∨ r.expiring = false :=
  ⟨by decide +kernel, rfl, rfl,
    (by decide +kernel : ∀ r ∈ site.set? 11, r.running = false ∨ r.expiring = false)⟩

theorem set3_inRange : set3.InRange := by constructor <;> decide +kernel

/-- For the four statements about an evaluation, at 1 s and 60 s. -/
theorem witness_Evaluation :
    site.set? 2 = some set3 ∧ set3.InRange ∧ (∀ ch, (site.feeder ch).interval ≤ 16777215)
    ∧ (1 ≤ 1 ∧ 1 ≤ 60 ∧ 60 ≤ 60)
    ∧ (site.account? 12 = some (account 30412) ∧ (account 30412).fuelShare ≤ 4294967295
        ∧ (account 30412).fuelAccrual ≤ 281474976710655)
    ∧ site.account? 63 = none :=
  ⟨by decide +kernel, set3_inRange, by decide +kernel, by decide +kernel, by decide +kernel, by decide +kernel⟩

/-- Set 14 of 5.9 enters RESERVE at its evaluation, and its relief set is set 16. -/
theorem witness_EvaluationChargesEachShare :
    ∃ r, crossing.set? 13 = some r ∧ r.InRange ∧ r.conds.reserve = false ∧ r.relief = some 15
      ∧ ((crossing.evaluate 13 60).1.set? 13).map (·.conds.reserve) = some true :=
  ⟨_, rfl, by constructor <;> decide +kernel, by decide +kernel, by decide +kernel, by decide +kernel⟩

theorem witness_SharesSumToTheBurn :
    let l : List (AccountSlot × Nat) := [(20, 95), (12, 1530), (9, 640)]
    (l.map (·.1)).Nodup ∧ (∀ p ∈ l, 1 ≤ p.2)
    ∧ (sharesOf 584 l 0).lookup 20 = some (584 * 95 / 2265 + 1)
    ∧ (sharesOf 584 l 0).lookup 12 = some (584 * 1530 / 2265) := by decide +kernel

theorem witness_CommittedLoadFollowsTheTransfer :
    bar.transfer = none ∧ bar.active 8 = true ∧ (bar.feeder 8).state = .on Side.B.other
    ∧ bar.boundSet 8 .B = some 5 ∧ (bar.feeder 8).energisedSet ≠ some 5
    ∧ (bar.feeder 8).energisedSet = some 3 ∧ (site.feeder 6).state = .dark := by decide +kernel

theorem witness_CurvesAreStagedAndReplacedWhole :
    (2 : Byte).toNat = (2 : CurveNo).val ∧ port.staging = none ∧ loading.staging = some ⟨2, [3800, 9000]⟩
    ∧ (List.replicate 9 0).length < 10 ∧ (List.replicate 10 0).length = 10 := by decide +kernel

/-- The site with a full carried list in set 3. -/
def fullList : State := site.updSet 2 fun r => { r with carried := [(20, 95), (21, 1), (22, 1), (23, 1)] }

theorem witness_FlushFillsTheCarriedListAndAssignNamesTheAccount :
    ((site.feeder 4).energisedSet = some 2 ∧ site.set? 2 = some set3 ∧ 0 < (site.feeder 4).interval)
    ∧ ((20 : AccountSlot) ∈ set3.carried.map (·.1))
    ∧ ((site.feeder 4).account ∉ set3.carried.map (·.1) ∧ set3.carried.length < 4)
    ∧ ((fullList.set? 2).map (fun r => (r.carried.map (·.1), r.carried.length)) = some ([20, 21, 22, 23], 4))
    ∧ (site.feeder 6).energisedSet = none
    ∧ ((6 : Byte).toNat = (6 : Channel).val ∧ (22 : Byte).toNat = (22 : AccountSlot).val
        ∧ site.active 6 = true ∧ (site.account? 22).isSome = true ∧ site.account? 63 = none)
    ∧ ((after (.assignFeederAccount 4 20) site).feeder 4).account = 20 := by decide +kernel

theorem witness_BindSideChecksInOrderAndBindsOneSide :
    (2 ≤ (2 : Byte).toNat ∧ 25 ≤ (25 : Byte).toNat)
    ∧ ((1 : Byte).toNat = sideCode (some .B) ∧ (12 : Byte).toNat = slotCode (some 11)
        ∧ (24 : Byte).toNat = slotCode (some 23) ∧ (0 : Byte).toNat = slotCode none)
    ∧ (half.active 8 = false ∧ site.active 6 = true ∧ site.set? 23 = none)
    ∧ (∀ i, (some 11 : Option SetSlot) = some i → (site.set? i).isSome = true)
    ∧ (site.feeder 4).state = .on .A ∧ (resetLine.feeder 3).state = .transfer
    ∧ (∃ o ∈ site.queue, o.feeder = 6 ∧ o.target = .A)
    ∧ ((site.feeder 6).state ≠ .on .B ∧ (site.feeder 6).state ≠ .transfer
        ∧ ¬ ∃ o ∈ site.queue, o.feeder = 6 ∧ o.target = .B) := by decide +kernel

theorem witness_ParametersAreClampedAndStored :
    (15 : Byte).toNat = (15 : Channel).val ∧ (100 : Byte).toNat = 100
    ∧ ¬ ((2 : Byte).toNat = 1 ∨ (2 : Byte).toNat = 10 ∨ (2 : Byte).toNat = 100)
    ∧ half.active 15 = false ∧ site.active 15 = true := by decide +kernel

/-- Feeder 8 of the worked transfer just after the take. -/
def barOpening : State := after (.enqueueOrder 8 1 1380 1400) bar

theorem barOpening_wired : barOpening.Wired where
  drives := by decide +kernel
  holds := by decide +kernel
  causes := by decide +kernel
  transfers := by decide +kernel
  orders := by decide +kernel
  oneOrder := by decide +kernel
  inOrder := by decide +kernel
  atMostEight := by decide +kernel
  openChecks := by decide +kernel
  inactive := by decide +kernel
  closedBound := by
    intro ch d
    cases d <;> revert ch <;> decide +kernel
  targetBound := by decide +kernel
  transferBound := by decide +kernel

theorem witness_OpenFeederAndReconcileFeeder :
    (7 : Byte).toNat = (7 : Channel).val ∧ site.active 7 = true ∧ (site.feeder 7).state = .fault
    ∧ (site.feeder 7).drive = ⟨false, false⟩ ∧ site.fbClosed 7 .A = false ∧ site.fbClosed 7 .B = false
    ∧ ((site.feeder 6).state ≠ .fault ∧ (site.feeder 6).state ≠ .transfer
        ∧ site.transfer.map (·.feeder) ≠ some 6)
    ∧ barOpening.Wired ∧ barOpening.transfer.map (·.feeder) = some 8 ∧ barOpening.active 8 = true :=
  ⟨by decide +kernel, by decide +kernel, by decide +kernel, by decide +kernel, by decide +kernel,
    by decide +kernel, by decide +kernel, barOpening_wired, by decide +kernel, by decide +kernel⟩

theorem witness_EnergyPulseBillsOneAccount :
    site.active 4 = true ∧ site.account? (site.feeder 4).account = some (account 30412)
    ∧ half.active 8 = false := by decide +kernel

/-- Feeder 8 after a failed close from DARK, in the releasing part, its contact still closed. -/
def barReleasing : State :=
  let late := runOut barDark
  after .closeTimeout { late with pins := { late.pins with
    feedback := ⟨late.pins.feedback.a, late.pins.feedback.b.set 8 true⟩ } }

/-- Feeder 6 of 3.7 opened by command with FB_A still closed. -/
def traderOpened : State := after (.openFeeder 6) trader

theorem witness_FeedbackChangesReachTheirBlock :
    ((site.pins.feedback.get .A)[(4 : Channel)] = true ∧ (site.pins.feedback.get .A)[(6 : Channel)] ≠ true)
    ∧ half.active 8 = false
    ∧ ((site.feeder 7).state = .fault ∧ (site.feeder 7).openCheck = none)
    ∧ ((site.feeder 6).state = .dark ∧ (site.feeder 6).openCheck = none)
    ∧ ((traderOpened.feeder 6).state = .dark ∧ (traderOpened.feeder 6).openCheck = some 400
        ∧ (traderOpened.feeder 6).drive = ⟨false, false⟩ ∧ traderOpened.fbClosed 6 .B = false)
    ∧ ((barOpening.feeder 8).state = .transfer ∧ barOpening.pins.resetN = true)
    ∧ (barOpening.transfer.map (fun t => (t.feeder, t.phase, t.fromSide)) = some (8, .opening, some .A))
    ∧ (barDead.transfer.map (·.phase) = some .dead)
    ∧ (barClosing.transfer.map (fun t => (t.phase, t.releasing, t.target)) = some (.closing, false, .B))
    ∧ (barReleasing.transfer.map (fun t => (t.phase, t.releasing, t.target)) = some (.closing, true, .B))
    ∧ (barFallback.transfer.map (fun t => (t.phase, t.fromSide, t.fallback))
        = some (.fallback, some .A, some .closeTimeout)) := by decide +kernel

/-- A disagreement of feeder 6 of 3.7, `ms` old. -/
def disagreeing (ms : Nat) : State :=
  let s := after (.feedbackChange 6 .A false) trader
  s.putFeeder 6 { s.feeder 6 with watch := ⟨some ms, none⟩ }

theorem witness_DisagreementsAndOpenChecksFaultTheFeeder :
    ((disagreeing 401).active 6 = true ∧ ((disagreeing 401).feeder 6).state = .on .A
        ∧ ((disagreeing 401).feeder 6).drive.get .A ≠ (disagreeing 401).fbClosed 6 .A
        ∧ ((disagreeing 401).feeder 6).watch.get .A = some 401 ∧ (disagreeing 401).params.closeTimeout = 400)
    ∧ ((disagreeing 400).feeder 6).watch.get .A = some 400
    ∧ (site.feeder 4).watch.get .A = none
    ∧ (let s := traderOpened.putFeeder 6 { traderOpened.feeder 6 with openCheck := some 0 }
       s.active 6 = true ∧ (s.feeder 6).openCheck = some 0 ∧ s.fbClosed 6 .A = true
       ∧ (let t : State := { s with pins := Pins.quiet }
          (t.feeder 6).state = .dark ∧ (t.feeder 6).drive = ⟨false, false⟩ ∧ t.fbClosed 6 .A = false
          ∧ t.fbClosed 6 .B = false))
    ∧ (site.feeder 4).openCheck ≠ some 0 := by decide +kernel

theorem witness_ReliefOrdersAreGenerated :
    crossing.clock.valid = true ∧ crossing.clock.minute ≠ 1048575
    ∧ (noClock crossing).clock.valid = false
    ∧ ({ crossing with clock := ⟨true, 1048575, 0, 0⟩ } : State).clock.minute = 1048575
    ∧ (crossing.feeder 2).state = .on .A ∧ (crossing.feeder 2).bound = ⟨some 13, some 15⟩
    ∧ crossing.queue.length = 7 := by decide +kernel

/-- Eight orders, none of them for feeder 8. -/
def fullQueue : State :=
  { bar with queue := [0, 1, 2, 3, 4, 5, 6, 7].map fun f => ⟨f, .A, 1380, 1400, .operator, .notDue⟩ }

theorem witness_OrdersJoinInTheirPlaceAndAreCancelled :
    site.queue.Pairwise (fun x y => x.startMin ≤ y.startMin)
    ∧ ((8 : Byte).toNat = (8 : Channel).val ∧ (1 : Byte).toNat = sideCode (some .B))
    ∧ 1048575 < (1048576 : BitVec 24).toNat
    ∧ ((1048573 : BitVec 24).toNat ≤ 1048575 ∧ (1048575 : BitVec 24).toNat ≤ 1048575)
    ∧ (noClock bar).clock.valid = false ∧ half.active 8 = false
    ∧ (bar.clock.valid = true ∧ bar.active 8 = true)
    ∧ (site.feeder 7).state = .fault
    ∧ ¬ ((bar.feeder 8).state = .fault ∨ (bar.feeder 8).state = .transfer
        ∨ (bar.feeder 8).bound.get .B = none ∨ (bar.feeder 8).state = .on .B)
    ∧ ¬ ((1380 : BitVec 24).toNat + 2 ≤ (1381 : BitVec 24).toNat ∧ bar.clock.minute < (1381 : BitVec 24).toNat)
    ∧ ((1380 : BitVec 24).toNat + 2 ≤ (1382 : BitVec 24).toNat ∧ bar.clock.minute < (1382 : BitVec 24).toNat)
    ∧ (∃ o ∈ site.queue, o.feeder = 6) ∧ (¬ ∃ o ∈ bar.queue, o.feeder = 8)
    ∧ (8 ≤ fullQueue.queue.length ∧ ¬ ∃ o ∈ fullQueue.queue, o.feeder = 8) ∧ bar.queue.length < 8
    ∧ barOpening.transfer.map (·.feeder) = some 8
    ∧ (site.transfer.map (·.feeder) ≠ some 5 ∧ ∀ o ∈ site.queue, o.feeder ≠ 5)
    ∧ (site.queue = [] ++ ⟨6, .A, 1300, 1400, .operator, .notDue⟩ :: []
        ∧ ∀ p ∈ ([] ++ [] : List Order), p.feeder ≠ 6) := by decide +kernel

/-- The site in HOLDOVER with a second order behind the first. -/
def waiting : State :=
  { dark site with queue :=
      [⟨6, .A, 1300, 1381, .operator, .notDue⟩, ⟨4, .B, 1380, 1400, .relief, .notDue⟩] }

theorem witness_AScanThatHandsNothingOverWritesWaitReasons :
    (waiting.mode ≠ .active ∧ (held site).pins.resetN = false ∧ barOpening.transfer.isSome = true)
    ∧ (∀ o ∈ waiting.queue, waiting.clock.minute < o.endMin)
    ∧ (∀ o ∈ waiting.queue, ∃ i r, (waiting.feeder o.feeder).bound.get o.target = some i
        ∧ waiting.set? i = some r)
    ∧ (site.transfer = none ∧ site.mode = .active ∧ site.pins.resetN = true
        ∧ ∀ o ∈ site.queue, site.waitReason o = some .notRunning)
    ∧ waiting.queue[1]? = some ⟨4, .B, 1380, 1400, .relief, .notDue⟩
    ∧ (waiting.feeder 4).bound.get .B = some 5 ∧ waiting.set? 5 = some { set12 with unit := 6 } := by
  refine ⟨by decide +kernel, by decide +kernel, ?_, by decide +kernel, by decide +kernel, by decide +kernel,
    by decide +kernel⟩
  intro o h
  have h : o = ⟨6, .A, 1300, 1381, .operator, .notDue⟩ ∨ o = ⟨4, .B, 1380, 1400, .relief, .notDue⟩ := by
    simpa [waiting] using h
  rcases h with rfl | rfl <;> exact ⟨5, { set12 with unit := 6 }, by decide +kernel, by decide +kernel⟩

/-- Feeder 8 of 6.5 with its order in the queue behind one that waits. -/
def barQueued : State :=
  { bar with queue :=
      [⟨4, .A, 1300, 1400, .operator, .notDue⟩, ⟨8, .B, 1380, 1400, .operator, .notDue⟩] }

theorem witness_AScanHandsOverTheFirstEligibleOrder :
    barQueued.queue = [⟨4, .A, 1300, 1400, .operator, .notDue⟩]
        ++ ⟨8, .B, 1380, 1400, .operator, .notDue⟩ :: []
    ∧ barQueued.transfer = none ∧ barQueued.mode = .active ∧ barQueued.pins.resetN = true
    ∧ (∀ p ∈ ([⟨4, .A, 1300, 1400, .operator, .notDue⟩] : List Order),
        ¬ (barQueued.waitReason p = none ∧ barQueued.clock.minute < p.endMin
          ∧ (barQueued.feeder p.feeder).openCheck = none))
    ∧ (barQueued.waitReason ⟨8, .B, 1380, 1400, .operator, .notDue⟩ = none
        ∧ barQueued.clock.minute < 1400 ∧ (barQueued.feeder 8).openCheck = none) := by decide +kernel

theorem witness_TheTakeBeginsOpenTransition :
    (bar.feeder 8).state = .on .A ∧ (site.feeder 6).state = .dark := by decide +kernel

/-- The transfer in hand as the deadlines read it. -/
def due (s : State) : Option (Phase × Bool × Option Side × Nat) × Bool :=
  (s.transfer.map fun t => (t.phase, t.releasing, t.fromSide, t.deadline), s.pins.resetN)

theorem witness_DeadlinesEndTheirPhases :
    due (runOut barOpening) = (some (.opening, false, some .A, 0), true)
    ∧ due (runOut barDead) = (some (.dead, false, some .A, 0), true)
    ∧ due (runOut barClosing) = (some (.closing, false, some .A, 0), true)
    ∧ due (runOut barDark) = (some (.closing, false, none, 0), true)
    ∧ due (runOut barReleasing) = (some (.closing, true, none, 0), true)
    ∧ due (runOut barFallback) = (some (.fallback, false, some .A, 0), true)
    ∧ ((barDead.feeder 8).bound.get .B = some 5 ∧ (barDead.set? 5).map (·.running) = some true
        ∧ ((barDead.updSet 5 fun r => { r with running := false }).set? 5).map (·.running) = some false)
    ∧ (bar.transfer = none ∧ barDead.transfer.map (·.deadline) = some 5000) :=
  ⟨by decide +kernel, by decide +kernel, by decide +kernel, by decide +kernel, by decide +kernel,
    by decide +kernel, by decide +kernel, by decide +kernel⟩

theorem witness_TicketsOpenCancelAndPermit :
    ((0 : Byte).toNat = (0 : SupplierNo).val ∧ (site.supplier 0).docket = .unregistered
        ∧ (site.supplier 1).docket ≠ .unregistered)
    ∧ ((0 : BitVec 24).toNat = 0 ∧ 999999 < (1000000 : BitVec 24).toNat ∧ 1 ≤ (1 : BitVec 24).toNat
        ∧ (999999 : BitVec 24).toNat ≤ 999999)
    ∧ ((0 : Byte).toNat = (0 : PositionNo).val ∧ (site.position 0).ticket = none
        ∧ (site.position 1).ticket ≠ none ∧ site.set? 23 = none ∧ site.set? 2 = some set3)
    ∧ ((site.supplier 1).docket = .next 40117 ∧ (site.supplier 2).docket = .exhausted)
    ∧ ((site.position 1).ticket.map (·.state) = some .ready
        ∧ (site.position 2).ticket.map (·.state) = some .dispensing)
    ∧ (2 < (3 : Byte).toNat ∧ (site.position 3).mode = .forceOn ∧ (1 : Byte).toNat = PermitMode.forceOff.code
        ∧ ¬ ((site.position 3).mode = .forceOn ∧ PermitMode.forceOff = .auto)) := by decide +kernel

theorem witness_CloseTicketUsesTheNextDocket :
    ((0 : BitVec 24).toNat = 0 ∧ 999999 < (1000000 : BitVec 24).toNat)
    ∧ (1 ≤ (40117 : BitVec 24).toNat ∧ (40117 : BitVec 24).toNat ≤ 999999)
    ∧ (site.position 0).ticket = none
    ∧ (site.position 2).ticket.map (fun t => (t.state, t.supplier)) = some (.dispensing, 1)
    ∧ (site.position 3).ticket.map (fun t => (t.state, t.supplier)) = some (.paused, 1)
    ∧ (site.supplier 1).docket = .next (40117 : BitVec 24).toNat
    ∧ (site.supplier 3).docket = .next (999999 : BitVec 24).toNat ∧ (site.supplier 2).docket = .exhausted := by
  decide +kernel

theorem witness_PulsesLiftsAndHangUpsMeterTheTicket :
    (∀ t ∈ (site.position 3).ticket, t.state ≠ .dispensing)
    ∧ (site.position 2).ticket.map (fun t => (t.state, t.set, t.delivered, t.liftMark))
        = some (.dispensing, 2, 329900, 180000)
    ∧ (site.pins.nozzle[(2 : PositionNo)] = true ∧ site.pins.nozzle[(3 : PositionNo)] = false)
    ∧ (site.position 0).ticket = none
    ∧ (site.set? 2 = some set3 ∧ set3.conds.reserve = decide (set3.tank ≤ set3.reserve)
        ∧ set3.conds.dry = decide (set3.tank = 0) ∧ set3.tank ≤ set3.capacity) := by decide +kernel

/-- Every account slot open. -/
def fullBooks : State :=
  { site with accounts := Vector.ofFn fun i : Fin 64 => some (account (BitVec.ofNat 32 i.val)) }

theorem witness_AccountsOpenAndRetire :
    (∃ a r, site.account? a = some r ∧ r.code = 30412)
    ∧ ((¬ ∃ a r, fullBooks.account? a = some r ∧ r.code = 99) ∧ ∀ a, (fullBooks.account? a).isSome = true)
    ∧ ((¬ ∃ a r, site.account? a = some r ∧ r.code = 99) ∧ site.account? 1 = none
        ∧ ∀ b : AccountSlot, b < 1 → (site.account? b).isSome = true)
    ∧ (0 : Byte).toNat = 0
    ∧ ((20 : Byte).toNat = (20 : AccountSlot).val ∧ (20 : AccountSlot) ≠ 0
        ∧ site.account? 20 = some (account 20) ∧ (account 20).hold = false ∧ (account 20).statement = none)
    ∧ (((after (.placeHold 20) site).account? 20).map (·.hold) = some true)
    ∧ (((after (.settleAccount 20) site).account? 20).map (fun r => (r.hold, r.statement.isSome))
        = some (false, true))
    ∧ ((foodCourt.account? 12).map (fun r => (r.hold, r.statement, r.energyAccrual)) = some (false, none, 5625000))
    ∧ ((∀ k : Band, (account 20).band[k] = 0) ∧ (account 20).energyAccrual = 0 ∧ (account 20).fuelShare = 0
        ∧ (account 20).fuelAccrual = 0)
    ∧ (∃ ch, (site.feeder ch).account = 9)
    ∧ ¬ ((∃ ch, (site.feeder ch).account = 20) ∨ ∃ i q, site.set? i = some q ∧ q.idle = 20) := by
  refine ⟨⟨12, account 30412, by decide +kernel⟩,
    ⟨fun ⟨j, q, h, e⟩ => (by decide +kernel : ∀ j, ∀ q ∈ fullBooks.account? j, q.code ≠ 99) j q h e,
      by decide +kernel⟩,
    ⟨fun ⟨j, q, h, e⟩ => (by decide +kernel : ∀ j, ∀ q ∈ site.account? j, q.code ≠ 99) j q h e,
      by decide +kernel⟩,
    by decide +kernel, by decide +kernel, by decide +kernel, by decide +kernel, by decide +kernel,
    by decide +kernel, by decide +kernel, ?_⟩
  rintro (⟨ch, h⟩ | ⟨i, q, h, e⟩)
  · exact (by decide +kernel : ∀ ch, (site.feeder ch).account ≠ 20) ch h
  · exact (by decide +kernel : ∀ i, ∀ q ∈ site.set? i, q.idle ≠ 20) i q h e

theorem witness_AccountsSettleReleaseAndHold :
    ((12 : Byte).toNat = (12 : AccountSlot).val ∧ (foodCourt.account? 12).map (fun r => (r.hold, r.statement))
        = some (false, none))
    ∧ foodCourt.clock.valid = true ∧ (noClock foodCourt).clock.valid = false
    ∧ (((after (.placeHold 12) foodCourt).account? 12).map (·.hold) = some true)
    ∧ (((after (.settleAccount 12) foodCourt).account? 12).map (fun r => (r.hold, r.statement.isSome))
        = some (false, true)) := by decide +kernel

theorem witness_TariffWritesWait :
    (3 : Byte).toNat = (3 : Band).val ∧ 3 < (4 : Byte).toNat ∧ (23 : Byte).toNat = (23 : Hour).val
    ∧ 23 < (24 : Byte).toNat := by decide +kernel

/-- A transfer in hand meets the interlock, and the next step lets a millisecond pass. -/
theorem witness_EveryStepKeepsTheInterlock :
    barOpening.Wired ∧ (stepped barOpening).transfer.map (·.deadline) = some 399 :=
  ⟨barOpening_wired, by decide +kernel⟩

theorem witness_EveryStepKeepsReferences : site.Referenced where
  units := by decide +kernel
  codes := by decide +kernel
  house := by decide +kernel
  sides := by
    intro ch d
    cases d <;> revert ch <;> decide +kernel
  payers := by decide +kernel
  idle := by decide +kernel
  relief := by decide +kernel
  carried := by decide +kernel
  tickets := by decide +kernel

theorem site_setsInRange : site.SetsInRange where
  sets := fun i r h => by
    have h' := (by decide +kernel : ∀ i, ∀ r ∈ site.set? i,
      r = set3 ∨ r = set12 ∨ r = { set12 with unit := 6 }) i r h
    rcases h' with rfl | rfl | rfl <;> constructor <;> decide +kernel
  rising := by decide +kernel
  highest := by decide +kernel
  staged := by decide +kernel

theorem site_totalsInRange : site.TotalsInRange := by constructor <;> decide +kernel

theorem site_fuelInRange : site.FuelInRange where
  tickets := fun p t h => by
    have h' := (by decide +kernel : ∀ p, ∀ t ∈ (site.position p).ticket,
      some t = (site.position 1).ticket ∨ some t = (site.position 2).ticket
        ∨ some t = (site.position 3).ticket) p t h
    rcases h' with h' | h' | h' <;> cases h' <;> constructor <;> decide +kernel
  stray := by decide +kernel
  delivered := by decide +kernel
  dockets := fun n k h => by
    have h' := (by decide +kernel : ∀ n, (site.supplier n).docket = .unregistered
      ∨ (site.supplier n).docket = .exhausted ∨ (site.supplier n).docket = .next 40117
      ∨ (site.supplier n).docket = .next 999999) n
    rw [h] at h'
    rcases h' with h' | h' | h' | h' <;> cases h' <;> decide

theorem site_portAndClock : site.PortAndClock := by constructor <;> decide +kernel

theorem witness_EveryStepKeepsTheRest :
    site.SetsInRange ∧ site.TotalsInRange ∧ site.FuelInRange ∧ site.PortAndClock :=
  ⟨site_setsInRange, site_totalsInRange, site_fuelInRange, site_portAndClock⟩

end Sys2Proof.Tests
end

section
/-! Frames: the bits sampled make whole bytes (R180), and the frame of a command is judged that command
(R181, R192). -/

namespace Sys2Proof

/-! ## Bits to bytes (R180) -/

theorem length_byteBits (b : Byte) : (byteBits b).length = 8 := rfl

theorem byteBits_getD (b : Byte) {j : Nat} (h : j < 8) : (byteBits b).getD j false = b.getMsbD j := by
  match j, h with
  | 0, _ | 1, _ | 2, _ | 3, _ | 4, _ | 5, _ | 6, _ | 7, _ => rfl

/-- Every eight bits are the bits of a byte. -/
theorem exists_byteBits (b0 b1 b2 b3 b4 b5 b6 b7 : Bool) :
    ∃ b : Byte, [b0, b1, b2, b3, b4, b5, b6, b7] = byteBits b :=
  ⟨BitVec.ofBoolListBE [b0, b1, b2, b3, b4, b5, b6, b7], by simp [byteBits, BitVec.getMsbD_ofBoolListBE]⟩

/-- Sampled bits are bytes sent one after the other and then a part byte, which may have no bit. -/
theorem exists_bytes_and_part (bits : List Bool) :
    ∃ (bytes : List Byte) (part : List Bool), part.length < 8 ∧ bits = bytes.flatMap byteBits ++ part := by
  match bits with
  | b0 :: b1 :: b2 :: b3 :: b4 :: b5 :: b6 :: b7 :: rest =>
    obtain ⟨bytes, part, short, rfl⟩ := exists_bytes_and_part rest
    obtain ⟨b, hb⟩ := exists_byteBits b0 b1 b2 b3 b4 b5 b6 b7
    exact ⟨b :: bytes, part, short, by simp [List.flatMap_cons, ← hb]⟩
  | [] | [_] | [_, _] | [_, _, _] | [_, _, _, _] | [_, _, _, _, _] | [_, _, _, _, _, _]
  | [_, _, _, _, _, _, _] => exact ⟨[], _, by simp, rfl⟩

/-- The bits of byte `k` of a list of bytes stand at the places `8 * k` and on. -/
theorem flatMap_byteBits_getD (bytes : List Byte) (part : List Bool) {k j : Nat} (hj : j < 8)
    (hk : k < bytes.length) :
    (bytes.flatMap byteBits ++ part).getD (8 * k + j) false = (bytes.getD k 0).getMsbD j := by
  induction bytes generalizing k with
  | nil => simp at hk
  | cons b bytes ih =>
    rw [List.flatMap_cons, List.append_assoc]
    cases k with
    | zero =>
      rw [List.getD_append _ _ _ _ (by rw [length_byteBits]; omega), Nat.mul_zero, Nat.zero_add, byteBits_getD b hj]
      rfl
    | succ k =>
      rw [List.getD_append_right _ _ _ _ (by rw [length_byteBits]; omega), length_byteBits,
        show 8 * (k + 1) + j - 8 = 8 * k + j by omega, ih (by simpa using hk)]
      rfl

/-- Bytes sent and a part byte behind them are assembled to the bytes (R180). -/
theorem assemble_bytes_and_part (bytes : List Byte) {part : List Bool} (short : part.length < 8) :
    assemble (bytes.flatMap byteBits ++ part) = bytes := by
  rw [assemble_flatMap_byteBits, assemble_of_length_lt short, List.append_nil]

theorem length_assemble (bits : List Bool) : (assemble bits).length = bits.length / 8 := by
  obtain ⟨bytes, part, short, rfl⟩ := exists_bytes_and_part bits
  rw [assemble_bytes_and_part bytes short, List.length_append, length_flatMap_byteBits]
  omega

theorem assemble_getMsbD (bits : List Bool) {k j : Nat} (hj : j < 8) (hk : 8 * k + 8 ≤ bits.length) :
    ((assemble bits).getD k 0).getMsbD j = bits.getD (8 * k + j) false := by
  obtain ⟨bytes, part, short, rfl⟩ := exists_bytes_and_part bits
  rw [List.length_append, length_flatMap_byteBits] at hk
  rw [assemble_bytes_and_part bytes short, flatMap_byteBits_getD bytes part hj (by omega)]

/-! ## Fields (R1) -/

@[simp] theorem word16_bytes16 (x : BitVec 16) : word16 (x.extractLsb' 8 8) (x.extractLsb' 0 8) = x :=
  (BitVec.extractLsb'_append_extractLsb'_eq_extractLsb' rfl).trans BitVec.extractLsb'_eq_self

@[simp] theorem word24_bytes24 (x : BitVec 24) :
    word24 (x.extractLsb' 16 8) (x.extractLsb' 8 8) (x.extractLsb' 0 8) = x := by
  have top : x.extractLsb' 16 8 ++ x.extractLsb' 8 8 = x.extractLsb' 8 16 :=
    BitVec.extractLsb'_append_extractLsb'_eq_extractLsb' rfl
  rw [word24, top]
  exact (BitVec.extractLsb'_append_extractLsb'_eq_extractLsb' rfl).trans BitVec.extractLsb'_eq_self

@[simp] theorem word32_bytes32 (x : BitVec 32) :
    word32 (x.extractLsb' 24 8) (x.extractLsb' 16 8) (x.extractLsb' 8 8) (x.extractLsb' 0 8) = x := by
  have top : x.extractLsb' 24 8 ++ x.extractLsb' 16 8 = x.extractLsb' 16 16 :=
    BitVec.extractLsb'_append_extractLsb'_eq_extractLsb' rfl
  have upper : x.extractLsb' 16 16 ++ x.extractLsb' 8 8 = x.extractLsb' 8 24 :=
    BitVec.extractLsb'_append_extractLsb'_eq_extractLsb' rfl
  rw [word32, top, upper]
  exact (BitVec.extractLsb'_append_extractLsb'_eq_extractLsb' rfl).trans BitVec.extractLsb'_eq_self

@[simp] theorem length_bytes16 (x : BitVec 16) : (bytes16 x).length = 2 := rfl

@[simp] theorem length_bytes24 (x : BitVec 24) : (bytes24 x).length = 3 := rfl

@[simp] theorem length_bytes32 (x : BitVec 32) : (bytes32 x).length = 4 := rfl

/-! ## The table of R192, written and read -/

/-- A command's code is in the table, above the codes of the reading frames, and its parameter count is one
that the table gives for the code (R181, R192). Of the rows only Open Account has a free count. -/
theorem wire_counts {c : Instr} {code : Nat} {p : List Byte} (wf : c.wf = true) (h : wire c = some (code, p)) :
    (3 ≤ code ∧ code < 256 ∧ p.length ≤ 40) ∧ ∃ counts, countsOf code = some counts ∧ p.length ∈ counts := by
  cases c
  case openAccount code label =>
    cases h
    have short : label.length ≤ 16 := by simpa [Instr.wf] using wf
    refine ⟨⟨by decide, by decide, by simp; omega⟩, List.range' 4 17, rfl, ?_⟩
    rw [List.mem_range'_1, List.length_append, length_bytes32]
    omega
  case querySet slot view =>
    cases view <;> cases h <;> exact ⟨⟨by decide, by decide, by simp⟩, _, rfl, by simp⟩
  all_goals
    cases h <;> exact ⟨⟨by decide, by decide, by simp⟩, _, rfl, by simp⟩

/-- The part reads from a command's parameter bytes the command they were written for (R192). -/
theorem parse_wire {c : Instr} {code : Nat} {p : List Byte} (h : wire c = some (code, p)) :
    parse code p = some c := by
  cases c
  case querySet slot view => cases view <;> cases h <;> rfl
  all_goals cases h <;> simp [parse, bytes16, bytes24, bytes32]

/-! ## The judgement of a frame (R181) -/

/-- A frame of whole bytes with a code of the table above the reading frames, its parameters counted as the
table gives, is judged by what its parameters spell (R181, steps 4 to 6). -/
theorem judgeCount_whole {code : Nat} {counts : List Nat} {p : List Byte} {c : Instr} (command : 3 ≤ code)
    (fits : p.length ≤ 40) (counted : p.length ∈ counts) (spells : parse code p = some c) :
    judgeCount code p.length counts p 0 = .carryOut c := by
  have one : code ≠ 1 := by omega
  have two : code ≠ 2 := by omega
  simp [judgeCount, Nat.not_lt.mpr fits, counted, one, two, spells]

/-- The frame of a command is judged that command. -/
theorem judge_wire {c : Instr} {code : Nat} {p : List Byte} (wf : c.wf = true) (h : wire c = some (code, p)) :
    judge (.sent (BitVec.ofNat 8 code :: BitVec.ofNat 8 p.length :: p) []) = .carryOut c := by
  obtain ⟨⟨command, byte_code, fits⟩, counts, known, counted⟩ := wire_counts wf h
  have code_eq : (BitVec.ofNat 8 code).toNat = code := by simp [Nat.mod_eq_of_lt byte_code]
  have count_eq : (BitVec.ofNat 8 p.length).toNat = p.length := by simp; omega
  have judged := judgeCount_whole command fits counted (parse_wire h)
  simpa [judge, assemble, code_eq, count_eq, known] using judged

/-- A reading frame is judged by the bits clocked after its byte 1 (R180, R181, R183, R187). -/
theorem judge_reading (bits : Nat) :
    judge (.sent [1, 0] (List.replicate bits false)) = .carryOut (.fetchResult bits)
    ∧ judge (.sent [2, 0] (List.replicate bits false)) = .carryOut (.readAttention bits) := by
  have clocked : 8 * (bits / 8) + bits % 8 = bits := Nat.div_add_mod bits 8
  have fetch : countsOf 1 = some [0] := rfl
  have attention : countsOf 2 = some [0] := rfl
  constructor <;> simp [judge, judgeCount, length_assemble, clocked, fetch, attention]

/-- The frame written for a well-formed command is judged to carry out that command. -/
theorem judge_frameOf {c : Instr} {f : Frame} (wf : c.wf = true) (h : frameOf c = some f) :
    f.taken = true ∧ judge f = .carryOut c := by
  unfold frameOf at h
  split at h
  case h_1 bits => cases h; exact ⟨rfl, (judge_reading bits).1⟩
  case h_2 bits => cases h; exact ⟨rfl, (judge_reading bits).2⟩
  case h_3 c _ _ =>
    obtain ⟨⟨code, p⟩, spelt, rfl⟩ := Option.map_eq_some_iff.mp h
    exact ⟨rfl, judge_wire wf spelt⟩

/-- Settles O8: the bits by cutting them into bytes and a part byte, the frames by what `wire` writes and
`parse` reads. -/
theorem framesSpellTheirCommands : Obligations.FramesSpellTheirCommands :=
  ⟨fun f => ⟨length_assemble f.bits, fun _ _ hj hk => assemble_getMsbD f.bits hj hk⟩,
    fun _ _ wf h => judge_frameOf wf h⟩

end Sys2Proof
end

section
/-! Set Feeder Parameters and Set Transfer Parameters (R57, R120). -/

namespace Sys2Proof.Machine

/-- A command that clamps completes OK exactly if what it stores is what was given (R3). -/
theorem clampedIf_eq_ite {changed : Bool} {same : Prop} [Decidable same] (h : changed = false ↔ same) :
    clampedIf changed = if same then .ok else .clamped := by
  cases changed <;> simp_all [clampedIf]

/-- A check that passes goes on (R3). -/
@[simp] theorem ok_bind {α β : Type} (a : α) (f : α → Except Status β) : (Except.ok a >>= f) = f a := rfl

/-- The first check that fails answers its status (R3). -/
@[simp] theorem error_bind {α β : Type} (st : Status) (f : α → Except Status β) :
    ((Except.error st : Except Status α) >>= f) = .error st := rfl

/-- The check of a weight asks for 1, 10 or 100 (R57). -/
theorem weight_check (w : Nat) :
    (w == 1 || w == 10 || w == 100) = decide (w = 1 ∨ w = 10 ∨ w = 100) := by
  simp [Bool.or_assoc, beq_eq_decide]

section SetFeederParameters

variable {s : State} {cb wb db : Byte} {ch : Channel} (hopen : s.portOpen = true) (hcb : cb.toNat = ch.val)
include hopen hcb

/-- A weight that is none of the three is refused before the channel is looked at (R57, log 12). -/
theorem execSetFeederParameters_range (h : ¬ (wb.toNat = 1 ∨ wb.toNat = 10 ∨ wb.toNat = 100)) :
    execSetFeederParameters cb wb db s = .next { s with sdo := .low, result := ⟨.range, []⟩ } := by
  rw [execSetFeederParameters, indexOperand_ok hcb, ok_bind]
  simp only [weight_check, decide_eq_false h, require_false, error_bind]
  exact serve_error hopen

/-- On an inactive channel a proper weight is refused with NO_RECORD (R45, R57). -/
theorem execSetFeederParameters_noRecord (h : wb.toNat = 1 ∨ wb.toNat = 10 ∨ wb.toNat = 100)
    (inactive : s.active ch = false) :
    execSetFeederParameters cb wb db s = .next { s with sdo := .low, result := ⟨.noRecord, []⟩ } := by
  rw [execSetFeederParameters, indexOperand_ok hcb, ok_bind]
  simp only [weight_check, decide_eq_true h, inactive, require_true, require_false, ok_bind, error_bind]
  exact serve_error hopen

/-- The weight and the clamped dead time are stored and reported (R57). -/
theorem execSetFeederParameters_stores (h : wb.toNat = 1 ∨ wb.toNat = 10 ∨ wb.toNat = 100)
    (active : s.active ch = true) :
    execSetFeederParameters cb wb db s =
      let dead := max 2 (min 30 db.toNat)
      .next { s with
        feeders := s.feeders.set ch { s.feeder ch with weight := wb.toNat, deadTime := dead }
        sdo := .low, result := ⟨if dead = db.toNat then .ok else .clamped,
          be 1 ch.val ++ be 1 wb.toNat ++ be 1 dead⟩ } := by
  rw [execSetFeederParameters, indexOperand_ok hcb, ok_bind]
  simp only [weight_check, decide_eq_true h, active, require_true, ok_bind,
    clampTo_eq (show 2 ≤ 30 by decide), clampedIf_eq_ite bne_eq_false_iff_eq]
  exact serve_ok hopen

end SetFeederParameters

/-- The three comparisons of Set Transfer Parameters compare the whole record (R120). -/
theorem params_unchanged_iff (o c m o' c' m' : Nat) :
    (o != o' || c != c' || m != m') = false ↔ (⟨o, c, m⟩ : Params) = ⟨o', c', m'⟩ := by
  simp [and_assoc]

/-- The three clamped values are stored and reported (R120). -/
theorem execSetTransferParameters_stores {s : State} (hopen : s.portOpen = true) (o c m : BitVec 16) :
    execSetTransferParameters o c m s =
      let p : Params := ⟨max 50 (min 2000 o.toNat), max 50 (min 2000 c.toNat), min 600 m.toNat⟩
      .next { s with
        params := p
        sdo := .low, result := ⟨if p = ⟨o.toNat, c.toNat, m.toNat⟩ then .ok else .clamped,
          be 2 p.openTimeout ++ be 2 p.closeTimeout ++ be 2 p.minRuntime⟩ } := by
  simp only [execSetTransferParameters, clampTo_eq (show 50 ≤ 2000 by decide),
    clampTo_eq (show 0 ≤ 600 by decide), Nat.zero_max, clampedIf_eq_ite (params_unchanged_iff _ _ _ _ _ _)]
  exact serve_ok hopen

/-- Settles O37: each outcome of the two commands is one of the equations above. -/
theorem parametersAreClampedAndStored : Obligations.ParametersAreClampedAndStored :=
  ⟨fun _ _ _ _ _ hopen hcb => ⟨execSetFeederParameters_range hopen hcb,
    execSetFeederParameters_noRecord hopen hcb, execSetFeederParameters_stores hopen hcb⟩,
   fun _ o c m hopen => execSetTransferParameters_stores hopen o c m⟩

end Sys2Proof.Machine
end

section
/-! The frame of the shared work: flushes, takes, phases, scans, evaluations, faults and re-derivations reach
the set, feeder and account records, the queue, the transfer in hand and its record, the flags with a
snapshot, and the count of free choices. Everything else stands: clock, mode, straps, curves, parameters,
positions, suppliers, tariff, result, mask, SDO, staging, pins and the commands that wait. -/

namespace Sys2Proof.Machine

/-- A state with the records that shared work reaches taken from another. -/
def State.withRecordsOf (s t : State) : State :=
  { s with
    sets := t.sets, feeders := t.feeders, queue := t.queue, lastOutcome := t.lastOutcome
    accounts := t.accounts, flags := t.flags, snapshot := t.snapshot, transfer := t.transfer
    choices := t.choices }

/-- The second state differs from the first in no more than the records that shared work reaches. -/
def ReachesRecords (s t : State) : Prop := t = s.withRecordsOf t

namespace ReachesRecords

theorem refl (s : State) : ReachesRecords s s := rfl

theorem trans {s t u : State} (a : ReachesRecords s t) (b : ReachesRecords t u) : ReachesRecords s u := by
  unfold ReachesRecords at *
  rw [b, a]
  rfl

theorem pending {s t : State} (h : ReachesRecords s t) : t.pending = s.pending := by
  rw [h]
  rfl

theorem result {s t : State} (h : ReachesRecords s t) : t.result = s.result := by
  rw [h]
  rfl

/-- `trans` with the later work first, from which the state between is read off. -/
theorem after {s t u : State} (b : ReachesRecords t u) (a : ReachesRecords s t) : ReachesRecords s u := a.trans b

/-- Either branch of a choice. -/
theorem ite {s t u : State} {c : Prop} [Decidable c] (a : ReachesRecords s t) (b : ReachesRecords s u) :
    ReachesRecords s (if c then t else u) := by
  split
  · exact a
  · exact b

/-- Work repeated over a list. -/
theorem foldl {α : Type} {f : State → α → State} (each : ∀ s a, ReachesRecords s (f s a)) (l : List α)
    (s : State) : ReachesRecords s (l.foldl f s) := by
  induction l generalizing s with
  | nil => exact refl s
  | cons a l ih => exact (each s a).trans (ih _)

/-! ## Notices, records and accounts -/

theorem raise (s : State) (f : Flag) : ReachesRecords s (s.raise f) := by
  unfold State.raise
  exact ite rfl rfl

theorem raiseIf (s : State) (c : Bool) (f : Flag) : ReachesRecords s (s.raiseIf c f) :=
  ite (raise s f) rfl

theorem raiseEntries (s : State) (before after : Conds) : ReachesRecords s (s.raiseEntries before after) :=
  (raiseIf s _ _).trans <| (raiseIf _ _ _).trans <| (raiseIf _ _ _).trans (raiseIf _ _ _)

theorem putSet (s : State) (i : SetSlot) (r : Option SetRec) : ReachesRecords s (s.putSet i r) := rfl

theorem updSet (s : State) (i : SetSlot) (g : SetRec → SetRec) : ReachesRecords s (s.updSet i g) := rfl

theorem putFeeder (s : State) (ch : Channel) (f : Feeder) : ReachesRecords s (s.putFeeder ch f) := rfl

theorem rewatch (s : State) (ch : Channel) (ms : Nat) : ReachesRecords s (s.rewatch ch ms) := rfl

theorem writeSet (s : State) (i : SetSlot) (before after : SetRec) :
    ReachesRecords s (s.writeSet i before after) :=
  (putSet s i _).trans (raiseEntries _ _ _)

theorem postAccount (s : State) (a : AccountSlot) (r : Account) (cut : Bool) :
    ReachesRecords s (s.postAccount a r cut) :=
  after (raiseIf _ _ _) rfl

theorem billEnergy (s : State) (a : AccountSlot) (w : Nat) : ReachesRecords s (s.billEnergy a w) := by
  unfold State.billEnergy
  split
  · exact refl s
  · exact postAccount s a _ _

theorem creditShare (s : State) (a : AccountSlot) (x : Nat) : ReachesRecords s (s.creditShare a x) := by
  unfold State.creditShare
  split
  · exact refl s
  · exact postAccount s a _ _

theorem creditTank (s : State) (i : SetSlot) (inc : Nat) : ReachesRecords s (s.creditTank i inc) := by
  unfold State.creditTank
  split
  · exact refl s
  · exact ite (refl s) ((writeSet s i _ _).trans (raiseIf _ _ _))

/-! ## Feeders and orders -/

theorem flush (s : State) (ch : Channel) : ReachesRecords s (s.flush ch) := by
  unfold State.flush
  split <;> rfl

theorem removeOrder (s : State) (ch : Channel) (o : TransferOutcome) (r : Reason) :
    ReachesRecords s (s.removeOrder ch o r) := by
  unfold State.removeOrder
  split <;> rfl

theorem faultFeeder (s : State) (ch : Channel) (cause : FaultCause) :
    ReachesRecords s (s.faultFeeder ch cause) :=
  (flush s ch).trans <| after ((removeOrder _ ch _ _).trans (raise _ _)) rfl

theorem drawOrder (s : State) (l : List Channel) : ReachesRecords s (s.drawOrder l).2 := by
  rw [s.drawOrder_state l]
  rfl

/-! ## The Transfer Sequencer -/

theorem endTransfer (s : State) (t : Transfer) (st : FeederState) (cause : FaultCause) (o : TransferOutcome)
    (r : Reason) (flags : List Flag) : ReachesRecords s (s.endTransfer t st cause o r flags) := by
  have opened : ReachesRecords s (if st = .fault then s.driveOpen t.feeder else s) := ite rfl rfl
  exact opened.trans <| after ((foldl raise flags _).trans (rewatch _ _ _)) rfl

theorem beginDead (s : State) (t : Transfer) : ReachesRecords s (s.beginDead t) := rfl

theorem beginOpening (s : State) (t : Transfer) (d : Side) : ReachesRecords s (s.beginOpening t d) :=
  ite rfl rfl

theorem beginClosing (s : State) (t : Transfer) : ReachesRecords s (s.beginClosing t) :=
  ite (after (endTransfer _ _ _ _ _ _ _) rfl) rfl

theorem beginReleasing (s : State) (t : Transfer) : ReachesRecords s (s.beginReleasing t) :=
  ite rfl (after (endTransfer _ _ _ _ _ _ _) rfl)

theorem beginFallback (s : State) (t : Transfer) (d : Side) (why : FallbackReason) :
    ReachesRecords s (s.beginFallback t d why) :=
  ite (after (endTransfer _ _ _ _ _ _ _) rfl) rfl

theorem openTimedOut (s : State) (t : Transfer) (d : Side) : ReachesRecords s (s.openTimedOut t d) :=
  after (endTransfer _ _ _ _ _ _ _) rfl

theorem testPhase (s : State) (t : Transfer) : ReachesRecords s (s.testPhase t) := by
  have ends := endTransfer s t
  unfold State.testPhase
  split
  · exact ite rfl rfl
  · rfl
  · rfl
  · exact ite (ite rfl (ends _ _ _ _ _)) (ite (ends _ _ _ _ _) rfl)
  · exact ite (ends _ _ _ _ _) rfl
  · rfl

theorem take (s : State) (ch : Channel) (target : Side) : ReachesRecords s (s.take ch target) := by
  refine (flush s ch).trans ?_
  unfold State.take
  dsimp only
  split
  · exact after (beginOpening _ _ _) rfl
  · exact after (beginClosing _ _) rfl

/-! ## The Transfer Queue -/

theorem scan (s : State) : ReachesRecords s s.scan := by
  have pass : ReachesRecords s (s.scanPass false s.queue).1 := by
    rcases s.scanPass_cases s.queue with ⟨_, none_handed⟩ | ⟨_, o, _, _, _, _, handed⟩
    · rw [none_handed]; exact refl s
    · rw [handed]; exact take s o.feeder o.target
  exact pass.trans rfl

theorem scanIfIdle (s : State) : ReachesRecords s s.scanIfIdle := ite (scan s) rfl

theorem expireOrders (s : State) : ReachesRecords s s.expireOrders :=
  after (foldl (f := State.expireOne) (fun _ _ => after (raise _ _) rfl) _ _) rfl

theorem placeRelief (window : Nat) (l : List Channel) (s : State) :
    ReachesRecords s (s.placeRelief window l) := by
  induction l generalizing s with
  | nil => rfl
  | cons ch rest ih => exact ite (raise s _) (after (ih _) rfl)

theorem generateRelief (s : State) (i : SetSlot) (relief : Option SetSlot) (window : Nat) :
    ReachesRecords s (s.generateRelief i relief window) := by
  unfold State.generateRelief
  split
  · rfl
  · exact ite (placeRelief window _ s) (raiseIf s _ _)

/-! ## Opening by command, open checks and feedback -/

theorem openByCommand (s : State) (ch : Channel) : ReachesRecords s (s.openByCommand ch) := by
  have dark (u : State) : ReachesRecords u (u.darkWithCheck ch) := rfl
  unfold State.openByCommand
  refine (flush s ch).trans (trans ?_ ((removeOrder _ ch _ _).trans (dark _)))
  split
  · exact ite (after (endTransfer _ _ _ _ _ _ _) rfl) rfl
  · rfl

theorem passOpenCheck (s : State) (ch : Channel) : ReachesRecords s (s.passOpenCheck ch) :=
  after (scan _) rfl

theorem feedbackSeen (s : State) (ch : Channel) (d : Side) : ReachesRecords s (s.feedbackSeen ch d) := by
  unfold State.feedbackSeen
  split
  · exact ite ((testPhase s _).trans (scanIfIdle _)) rfl
  · exact ite (ite (passOpenCheck s ch) rfl) rfl

/-! ## The Burn Unit -/

theorem collectFeeders (s : State) (i : SetSlot) (secs : Nat) : ReachesRecords s (s.collectFeeders i secs) :=
  foldl (fun s ch => ite (putFeeder s ch _) (refl s)) _ _

theorem evaluate (s : State) (i : SetSlot) (secs : Nat) : ReachesRecords s (s.evaluate i secs).1 := by
  have relief (u : State) (before after : SetRec) : ReachesRecords u (u.reliefAtEntry i before after) :=
    ite (generateRelief u _ _ _) rfl
  unfold State.evaluate
  split
  · rfl
  · exact (collectFeeders s i secs).trans <| (writeSet _ i _ _).trans <| (relief _ _ _).trans <|
      foldl (fun s (p : AccountSlot × Nat) => creditShare s p.1 p.2) _ _

/-! ## Resets -/

theorem rederive (s : State) (ch : Channel) : ReachesRecords s (s.rederive ch) :=
  ite (faultFeeder s ch _) rfl

theorem resetTransfer (s : State) : ReachesRecords s s.resetTransfer := by
  unfold State.resetTransfer
  split
  · rfl
  · exact (rederive s _).trans (endTransfer _ _ _ _ _ _ _)

theorem deactivate (s : State) (ch : Channel) : ReachesRecords s (s.deactivate ch) :=
  (flush s ch).trans <| after ((removeOrder _ ch _ _).trans rfl) rfl

theorem rederiveRest (s : State) (done : Option Channel) : ReachesRecords s (s.rederiveRest done) :=
  (drawOrder s _).trans <| foldl (fun s ch => ite (rewatch s ch 0) (ite (rederive s ch) (refl s))) _ _

end ReachesRecords

end Sys2Proof.Machine
end

section
/-! Every command and event answers a next state with the queue as it was (R3, R4), and a refused command
changes nothing but the result and SDO (R3, R180, R182). Both follow from what a command's own rule may
answer: a refusal, a refusing status with the state as it was, or a state that keeps the commands that wait. -/

namespace Sys2Proof.Machine

/-- An outcome is a next state in which the commands that waited still wait. -/
def Completes (s : State) (o : Host.Outcome State Fault Refusal) : Prop :=
  ∃ t, o = .next t ∧ t.pending = s.pending

/-! ## What a command's own rule answers -/

/-- A reply keeps the commands that wait, and with a refusing status it keeps the whole state. -/
structure Reply.Proper (s : State) (r : Reply) : Prop where
  pending : r.state.pending = s.pending
  refused : r.status.refuses = true → r.state = s

/-- Whatever a command's own rule answers is a refusal or a proper reply. -/
def Answers (s : State) (body : Except Status Reply) : Prop := ∀ r, body = .ok r → r.Proper s

namespace Answers

variable {s : State}

theorem error (st : Status) : Answers s (.error st) := fun _ h => nomatch h

/-- A check or an operand in front of a rule refuses or goes on. -/
theorem bind {α : Type} {x : Except Status α} {f : α → Except Status Reply} (h : ∀ a, Answers s (f a)) :
    Answers s (x >>= f) := by
  cases x with
  | error st => exact error st
  | ok a => exact h a

/-- A reply that reads changes nothing. -/
theorem reads (st : Status) (data : List Byte) : Answers s (.ok ⟨st, data, s⟩) :=
  fun _ h => by cases h; exact ⟨rfl, fun _ => rfl⟩

/-- A reply with status OK; most rules write records alone, and the commands wait by definition. -/
theorem done {data : List Byte} {t : State} (h : t.pending = s.pending := by rfl) :
    Answers s (.ok ⟨.ok, data, t⟩) :=
  fun _ e => by cases e; exact ⟨h, nofun⟩

theorem clampedIf_not_refuses (c : Bool) : (clampedIf c).refuses = false := by cases c <;> rfl

/-- A reply that clamps its values. -/
theorem clamped {c : Bool} {data : List Byte} {t : State} (h : t.pending = s.pending := by rfl) :
    Answers s (.ok ⟨clampedIf c, data, t⟩) :=
  fun _ e => by cases e; exact ⟨h, fun r => by simp [clampedIf_not_refuses] at r⟩

theorem ite {c : Prop} [Decidable c] {x y : Except Status Reply} (a : Answers s x) (b : Answers s y) :
    Answers s (if c then x else y) := by
  split
  · exact a
  · exact b

end Answers

/-- A command is served: its frame is taken if the port is open, and its rule answers properly. -/
inductive Serves (s : State) : Host.Outcome State Fault Refusal → Prop
  | of {body : Except Status Reply} : Answers s body → Serves s (serve s body)

namespace Serves

variable {s t : State} {o : Host.Outcome State Fault Refusal}

/-- A served command answers a next state with the queue as it was. -/
theorem completes (h : Serves s o) : Completes s o := by
  obtain @⟨body, answers⟩ := h
  refine ⟨_, rfl, ?_⟩
  cases s.portOpen with
  | false => rfl
  | true =>
    cases body with
    | error st => rfl
    | ok r => exact (answers r rfl).pending

/-- A served command that is refused changes nothing but the result; SDO follows the port. -/
theorem refused (h : Serves s o) (next : o = .next t) (refuses : t.result.status.refuses = true) :
    t = { s with result := t.result, sdo := if s.portOpen then .low else .released } := by
  obtain @⟨body, answers⟩ := h
  cases hopen : s.portOpen with
  | false =>
    rw [serve_closed _ hopen] at next
    cases next
    rfl
  | true =>
    cases body with
    | error st =>
      rw [serve_error hopen] at next
      cases next
      rfl
    | ok r =>
      rw [serve_ok hopen] at next
      cases next
      simp [(answers r rfl).refused refuses]

end Serves

/-! ## Rules with several answers -/

theorem execOpenFeeder_serves (channel : Byte) (s : State) : Serves s (execOpenFeeder channel s) := by
  refine .of (.bind fun ch => .done ?_)
  split
  · rfl
  · exact ((ReachesRecords.openByCommand s ch).trans (.scan _)).pending
  · exact (ReachesRecords.openByCommand s ch).pending

theorem execReportRun_serves (slot report : Byte) (s : State) : Serves s (execReportRun slot report s) := by
  refine .of (.bind fun i => .bind fun started => .bind fun r => .bind fun _ => .ite (.done ?_) (.done ?_))
  · exact (ReachesRecords.after (.scan _) (.updSet s i _)).pending
  · have partly : ReachesRecords s (s.partialEvaluation i (r.timer / 1000)).1 := by
      unfold State.partialEvaluation
      split
      · exact .refl s
      · exact .evaluate s i _
    exact (partly.trans (.after (.scan _) (.updSet _ i _))).pending

theorem execHireSet_serves (unit : BitVec 32) (rating : BitVec 16) (capacity : BitVec 32) (curve : Byte)
    (minHire : BitVec 16) (dayRate tank : BitVec 32) (s : State) :
    Serves s (execHireSet unit rating capacity curve minHire dayRate tank s) := by
  refine .of (.bind fun _ => .bind fun _ => .bind fun c => .bind fun _ => .bind fun _ => .bind fun _ =>
    .bind fun _ => ?_)
  split
  · exact .error _
  · exact .clamped (ReachesRecords.after (.raiseEntries _ _ _) (.putSet s _ _)).pending

theorem execLoadCurvePoint_serves (value : BitVec 32) (s : State) : Serves s (execLoadCurvePoint value s) := by
  refine .of ?_
  split
  · exact .error _
  · refine .clamped ?_
    split <;> rfl

theorem execReconcileFeeder_serves (channel : Byte) (s : State) : Serves s (execReconcileFeeder channel s) := by
  refine .of (.bind fun ch => .ite (.done ?_) (.reads _ _))
  exact ReachesRecords.pending (.after (.scan _) rfl)

theorem execEnqueueOrder_serves (channel side : Byte) (startMin endMin : BitVec 24) (s : State) :
    Serves s (execEnqueueOrder channel side startMin endMin s) := by
  refine .of (.bind fun _ => .bind fun _ => .bind fun _ => .bind fun _ => .bind fun _ => .bind fun _ =>
    .bind fun _ => .bind fun _ => .bind fun _ => .bind fun _ => .bind fun _ => .done ?_)
  exact ReachesRecords.pending (.after (.scan _) rfl)

theorem execCancelOrder_serves (channel : Byte) (s : State) : Serves s (execCancelOrder channel s) := by
  refine .of (.bind fun ch => .bind fun _ => ?_)
  split
  · exact .error _
  · exact .done (ReachesRecords.removeOrder s ch _ _).pending

theorem execCloseTicket_serves (position : Byte) (docket : BitVec 24) (s : State) :
    Serves s (execCloseTicket position docket s) := by
  refine .of (.bind fun p => .bind fun _ => ?_)
  split
  · exact .reads _ _
  · exact .ite (.reads _ _) (.ite (.reads _ _) (.ite .done (.reads _ _)))

theorem execCancelTicket_serves (position : Byte) (s : State) : Serves s (execCancelTicket position s) := by
  refine .of (.bind fun p => ?_)
  split
  · exact .error _
  · exact .bind fun _ => .done

theorem execOpenAccount_serves (code : BitVec 32) (label : List Byte) (s : State) :
    Serves s (execOpenAccount code label s) := by
  refine .of (.bind fun _ => ?_)
  split
  · exact .error _
  · exact .done

theorem execFetchStatement_serves (slot : Byte) (s : State) : Serves s (execFetchStatement slot s) := by
  refine .of (.bind fun a => .bind fun r => ?_)
  split
  · exact .error _
  · exact .reads _ _

theorem execReleaseStatement_serves (slot : Byte) (s : State) : Serves s (execReleaseStatement slot s) := by
  refine .of (.bind fun a => .bind fun r => ?_)
  split
  · exact .error _
  · exact .done

theorem execFindSet_serves (unit : BitVec 32) (s : State) : Serves s (execFindSet unit s) := by
  refine .of ?_
  split
  · exact .reads _ _
  · exact .error _

theorem execFindAccount_serves (code : BitVec 32) (s : State) : Serves s (execFindAccount code s) := by
  refine .of ?_
  split
  · exact .reads _ _
  · exact .error _

/-! ## Every command frame -/

/-- Every command frame but Restart's, which writes no result of its own (R178), is served. -/
theorem exec_serves (s : State) :
    ∀ c : Instr, (wire c).isSome = true → c ≠ .restart → Serves s (exec c s)
  | .setAttentionMask _, _, _ => .of .done
  | .identify, _, _ => .of (.reads _ _)
  | .restart, _, h => absurd rfl h
  | .setClock _, _, _ => .of <| .bind fun _ =>
      .done (ReachesRecords.trans (.expireOrders _) (.scan _)).pending
  | .queryClock, _, _ => .of (.reads _ _)
  | .hireSet _ _ _ _ _ _ _, _, _ => execHireSet_serves _ _ _ _ _ _ _ s
  | .querySet _ _, _, _ => .of <| .bind fun _ => .bind fun _ => .bind fun _ => .reads _ _
  | .findSet _, _, _ => execFindSet_serves _ s
  | .reportRun _ _, _, _ => execReportRun_serves _ _ s
  | .amendSet _ _ _ _ _ _ _, _, _ => .of <| .bind fun i => .bind fun _ => .bind fun _ => .bind fun _ =>
      .bind fun _ => .bind fun _ => .bind fun _ => .bind fun _ =>
        .clamped (ReachesRecords.writeSet s i _ _).pending
  | .dipSet _ _, _, _ => .of <| .bind fun i => .bind fun _ =>
      .clamped (ReachesRecords.writeSet s i _ _).pending
  | .offHireSet _, _, _ => .of <| .bind fun _ => .bind fun _ => .bind fun _ => .bind fun _ =>
      .bind fun _ => .done
  | .beginCurve _, _, _ => .of <| .bind fun _ => .done
  | .loadCurvePoint _, _, _ => execLoadCurvePoint_serves _ s
  | .queryCurve _, _, _ => .of <| .bind fun _ => .reads _ _
  | .bindSide _ _ _, _, _ => .of <| .bind fun _ => .bind fun _ => .bind fun _ => .bind fun _ =>
      .bind fun _ => .bind fun _ => .bind fun _ => .bind fun _ => .done
  | .assignFeederAccount _ _, _, _ => .of <| .bind fun ch => .bind fun _ => .bind fun _ => .bind fun _ =>
      .done (ReachesRecords.trans (.flush s ch) (.putFeeder _ ch _)).pending
  | .setFeederParameters _ _ _, _, _ => .of <| .bind fun _ => .bind fun _ => .bind fun _ => .clamped
  | .openFeeder _, _, _ => execOpenFeeder_serves _ s
  | .reconcileFeeder _, _, _ => execReconcileFeeder_serves _ s
  | .queryFeeder _, _, _ => .of <| .bind fun _ => .reads _ _
  | .enqueueOrder _ _ _ _, _, _ => execEnqueueOrder_serves _ _ _ _ s
  | .cancelOrder _, _, _ => execCancelOrder_serves _ s
  | .queryQueue, _, _ => .of (.reads _ _)
  | .querySequencer, _, _ => .of (.reads _ _)
  | .setTransferParameters _ _ _, _, _ => .of .clamped
  | .registerSupplier _ _, _, _ => .of <| .bind fun _ => .bind fun _ => .bind fun _ => .done
  | .querySupplier _, _, _ => .of <| .bind fun _ => .reads _ _
  | .openTicket _ _ _ _, _, _ => .of <| .bind fun _ => .bind fun _ => .bind fun _ => .bind fun _ =>
      .bind fun _ => .bind fun _ => .bind fun _ => .clamped
  | .setPermitMode _ _, _, _ => .of <| .bind fun _ => .bind fun _ => .ite (.reads _ _) .done
  | .closeTicket _ _, _, _ => execCloseTicket_serves _ _ s
  | .cancelTicket _, _, _ => execCancelTicket_serves _ s
  | .queryPosition _, _, _ => .of <| .bind fun _ => .reads _ _
  | .openAccount _ _, _, _ => execOpenAccount_serves _ _ s
  | .queryAccount _, _, _ => .of <| .bind fun _ => .bind fun _ => .reads _ _
  | .findAccount _, _, _ => execFindAccount_serves _ s
  | .settleAccount _, _, _ => .of <| .bind fun _ => .bind fun _ => .bind fun _ => .bind fun _ =>
      .bind fun _ => .done
  | .fetchStatement _, _, _ => execFetchStatement_serves _ s
  | .releaseStatement _, _, _ => execReleaseStatement_serves _ s
  | .retireAccount _, _, _ => .of <| .bind fun _ => .bind fun _ => .bind fun _ => .bind fun _ =>
      .bind fun _ => .bind fun _ => .bind fun _ => .done
  | .placeHold _, _, _ => .of <| .bind fun _ => .bind fun _ => .done
  | .releaseAllHolds, _, _ => .of .done
  | .setBandRate _ _, _, _ => .of <| .bind fun _ => .done
  | .setFuelPrice _, _, _ => .of .done
  | .setScheduleSlot _ _, _, _ => .of <| .bind fun _ => .bind fun _ => .done
  | .queryTariff, _, _ => .of (.reads _ _)

/-! ## Restart -/

/-- The steps of a Restart behind its first (R178). -/
theorem restart_reaches (s : State) (done : Option Channel) :
    ReachesRecords s.resetPort ((s.resetPort.resetTransfer).rederiveRest done).scan :=
  (ReachesRecords.resetTransfer _).trans ((ReachesRecords.rederiveRest _ done).trans (.scan _))

theorem execRestart_completes (s : State) : Completes s (execRestart s) := by
  refine ⟨_, rfl, ?_⟩
  split
  · exact (restart_reaches s _).pending
  · rfl

/-- A Restart is never refused: its result reads NONE, or with the port closed it is no command. -/
theorem execRestart_refused {s t : State} (next : execRestart s = .next t)
    (refuses : t.result.status.refuses = true) :
    t = { s with result := t.result, sdo := if s.portOpen then .low else .released } := by
  unfold execRestart at next
  cases hopen : s.portOpen with
  | false =>
    rw [hopen] at next
    cases next
    rfl
  | true =>
    rw [hopen] at next
    have cleared : t.result = .none := by
      cases next
      exact (restart_reaches s _).result
    rw [cleared] at refuses
    cases refuses

/-- Settles O11: a served command by its rule's answers, and a Restart, which is never refused. -/
theorem refusedCommandsChangeNothing : Obligations.RefusedCommandsChangeNothing := by
  intro c s t command next refuses
  by_cases restart : c = .restart
  · subst restart
    exact execRestart_refused next refuses
  · exact (exec_serves s c command restart).refused next refuses

/-! ## Field events and expiries -/

/-- Work on the records alone lets the commands wait. -/
theorem ReachesRecords.completes {s t : State} (h : ReachesRecords s t) : Completes s (.next t) :=
  ⟨t, rfl, h.pending⟩

/-- A next state with the commands that waited; most updates do not name them, and it is so by definition. -/
theorem Completes.next {s t : State} (h : t.pending = s.pending := by rfl) : Completes s (.next t) := ⟨t, rfl, h⟩

theorem Completes.ite {s t u : State} {c : Prop} [Decidable c] (a : Completes s (.next t))
    (b : Completes s (.next u)) : Completes s (.next (if c then t else u)) := by
  split
  · exact a
  · exact b

theorem execReadAttention_completes (bits : Nat) (s : State) : Completes s (execReadAttention bits s) := by
  unfold execReadAttention
  split
  · exact .next
  · exact .ite .next .next

theorem execIntervalExpiry_completes (i : SetSlot) (s : State) : Completes s (execIntervalExpiry i s) := by
  unfold execIntervalExpiry
  split
  · exact .next
  · refine .ite (ReachesRecords.completes ?_) .next
    exact .trans (.evaluate s i 60) (.after (.scan _) (.updSet _ i _))

theorem execEnergyPulse_completes (ch : Channel) (s : State) : Completes s (execEnergyPulse ch s) :=
  .ite (ReachesRecords.completes (.after (.billEnergy _ _ _) (.putFeeder s ch _))) .next

theorem execFeedbackChange_completes (ch : Channel) (d : Side) (level : Bool) (s : State) :
    Completes s (execFeedbackChange ch d level s) :=
  .ite .next (.ite (.next (ReachesRecords.feedbackSeen (s.setFeedback ch d level) ch d).pending) .next)

theorem execDisagreementTimerExpiry_completes (ch : Channel) (d : Side) (s : State) :
    Completes s (execDisagreementTimerExpiry ch d s) :=
  .ite (ReachesRecords.faultFeeder s ch _).completes .next

theorem execOpenCheckDeadline_completes (ch : Channel) (s : State) :
    Completes s (execOpenCheckDeadline ch s) :=
  .ite (.ite (ReachesRecords.passOpenCheck s ch).completes (ReachesRecords.faultFeeder s ch _).completes) .next

theorem execOpenTimeout_completes (s : State) : Completes s (execOpenTimeout s) := by
  unfold execOpenTimeout
  split
  · split
    · exact (ReachesRecords.trans (.openTimedOut s _ _) (.scanIfIdle _)).completes
    · exact .next
  · exact .next

theorem execDeadTimeExpiry_completes (s : State) : Completes s (execDeadTimeExpiry s) := by
  unfold execDeadTimeExpiry
  split
  · split
    · exact .ite (ReachesRecords.trans (.beginClosing s _) (.scanIfIdle _)).completes
        (ReachesRecords.trans (.beginFallback s _ _ _) (.scanIfIdle _)).completes
    · exact .next
  · exact .next

theorem execCloseTimeout_completes (s : State) : Completes s (execCloseTimeout s) := by
  unfold execCloseTimeout
  split
  · split
    · exact (ReachesRecords.trans (.beginFallback s _ _ _) (.scanIfIdle _)).completes
    · exact (ReachesRecords.trans (.beginReleasing s _) (.scanIfIdle _)).completes
    · exact .next
  · exact .next

theorem execReleaseDeadline_completes (s : State) : Completes s (execReleaseDeadline s) := by
  unfold execReleaseDeadline
  split
  · split
    · exact (ReachesRecords.trans (.endTransfer s _ _ _ _ _ _) (.scanIfIdle _)).completes
    · exact .next
  · exact .next

theorem execFallbackTimeout_completes (s : State) : Completes s (execFallbackTimeout s) := by
  unfold execFallbackTimeout
  split
  · split
    · exact (ReachesRecords.trans (.endTransfer s _ _ _ _ _ _) (.scanIfIdle _)).completes
    · exact .next
  · exact .next

theorem execFuelPulse_completes (p : PositionNo) (s : State) : Completes s (execFuelPulse p s) := by
  have stray : ((s.putPosition p { s.position p with
      stray := satAdd max24 (s.position p).stray s.fuelWeight }).raise .strayFuel).pending = s.pending := by simp
  unfold execFuelPulse
  dsimp only
  split
  · exact .next stray
  · exact .ite (.next (by simp)) (.next stray)

theorem execNozzleLift_completes (p : PositionNo) (s : State) : Completes s (execNozzleLift p s) := by
  refine .ite .next (.next ?_)
  dsimp only
  split
  · rfl
  · split <;> rfl

theorem execHangUp_completes (p : PositionNo) (s : State) : Completes s (execHangUp p s) := by
  refine .ite .next (.next ?_)
  dsimp only
  split
  · rfl
  · split
    · exact (ReachesRecords.trans (.creditTank _ _ _) (.raise _ _)).pending
    · rfl

theorem State.expireOrders_scan_pending (s : State) : s.expireOrders.scan.pending = s.pending :=
  (ReachesRecords.trans (.expireOrders s) (.scan _)).pending

theorem State.minuteAdvance_pending (s : State) : s.minuteAdvance.pending = s.pending := by
  unfold State.minuteAdvance
  rw [State.expireOrders_scan_pending]
  split <;> rfl

theorem execSiteSecondAdvance_completes (s : State) : Completes s (execSiteSecondAdvance s) := by
  refine .ite (.next ?_) .next
  unfold State.secondAdvance
  split
  · rfl
  · dsimp only
    split
    · exact State.minuteAdvance_pending _
    · rfl

theorem execResumeTimerExpiry_completes (s : State) : Completes s (execResumeTimerExpiry s) :=
  .ite (.next (ReachesRecords.trans (.raise { s with mode := .active } .supplyRestored) (.scan _)).pending) .next

theorem State.sampleStraps_pending (s : State) (x : Straps) : (s.sampleStraps x).pending = s.pending :=
  (ReachesRecords.ite (.foldl .deactivate upperChannels s) (.refl s)).pending

theorem execResetNRise_completes (x : Straps) (s : State) : Completes s (execResetNRise x s) := by
  refine .ite .next (.next ?_)
  refine (ReachesRecords.trans (.rederiveRest _ _) (.scan _)).pending.trans ?_
  exact (State.sampleStraps_pending _ x).trans (ReachesRecords.resetTransfer _).pending

/-! ## Raw frames -/

theorem execSnapshot_completes (s : State) : Completes s (execSnapshot s) := .ite .next .next

theorem execFetchResult_completes (bits : Nat) (s : State) : Completes s (execFetchResult bits s) :=
  .ite .next .next

theorem readAttentionFrame_completes (bits : Nat) (s : State) : Completes s (readAttentionFrame bits s) := by
  unfold readAttentionFrame
  split
  · exact execReadAttention_completes bits s
  · obtain ⟨t, taken, kept⟩ := execSnapshot_completes s
    obtain ⟨u, read, kept'⟩ := execReadAttention_completes bits t
    rw [taken]
    exact ⟨u, read, kept'.trans kept⟩

/-- What step 6 of R181 can carry out: a command frame as its own row, a reading frame, or a field event, which
is no frame and changes nothing. -/
theorem carryOut_cases (c : Instr) (s : State) :
    ((wire c).isSome = true ∧ carryOut c s = exec c s)
    ∨ (wire c = none
      ∧ ((∃ bits, c = .fetchResult bits) ∨ (∃ bits, c = .readAttention bits) ∨ carryOut c s = .next s)) := by
  cases c
  case fetchResult bits => exact .inr ⟨rfl, .inl ⟨bits, rfl⟩⟩
  case readAttention bits => exact .inr ⟨rfl, .inr (.inl ⟨bits, rfl⟩)⟩
  case snapshot | unknownCommand | energyPulse | feedbackChange | disagreementTimerExpiry | openCheckDeadline
    | intervalExpiry | openTimeout | deadTimeExpiry | closeTimeout | releaseDeadline | fallbackTimeout
    | fuelPulse | nozzleLift | hangUp | siteSecondAdvance | supplyOkFall | supplyOkRise | resumeTimerExpiry
    | resetNFall | resetNRise | coldStart => exact .inr ⟨rfl, .inr (.inr rfl)⟩
  case querySet slot view => cases view <;> exact .inl ⟨rfl, rfl⟩
  all_goals exact .inl ⟨rfl, rfl⟩

/-- Every command frame lets the commands behind it wait. -/
theorem exec_command_completes (s : State) {c : Instr} (command : (wire c).isSome = true) :
    Completes s (exec c s) := by
  by_cases restart : c = .restart
  · subst restart
    exact execRestart_completes s
  · exact (exec_serves s c command restart).completes

theorem carryOut_completes (c : Instr) (s : State) : Completes s (carryOut c s) := by
  rcases carryOut_cases c s with ⟨command, own⟩ | ⟨_, ⟨bits, rfl⟩ | ⟨bits, rfl⟩ | nothing⟩
  · rw [own]
    exact exec_command_completes s command
  · exact execFetchResult_completes bits s
  · exact readAttentionFrame_completes bits s
  · rw [nothing]
    exact .next

theorem execUnknownCommand_completes (f : Frame) (s : State) : Completes s (execUnknownCommand f s) := by
  unfold execUnknownCommand
  split
  · split
    · exact .next
    · exact .next
    · exact .next
    · exact carryOut_completes _ s
  · exact .next

/-! ## Every row -/

/-- Every row that is no command frame: the reading frames, the raw frame and the field events. -/
theorem exec_event_completes (s : State) : ∀ c : Instr, wire c = none → Completes s (exec c s)
  | .fetchResult bits, _ => execFetchResult_completes bits s
  | .readAttention bits, _ => execReadAttention_completes bits s
  | .snapshot, _ => execSnapshot_completes s
  | .unknownCommand f, _ => execUnknownCommand_completes f s
  | .energyPulse ch, _ => execEnergyPulse_completes ch s
  | .feedbackChange ch d level, _ => execFeedbackChange_completes ch d level s
  | .disagreementTimerExpiry ch d, _ => execDisagreementTimerExpiry_completes ch d s
  | .openCheckDeadline ch, _ => execOpenCheckDeadline_completes ch s
  | .intervalExpiry i, _ => execIntervalExpiry_completes i s
  | .openTimeout, _ => execOpenTimeout_completes s
  | .deadTimeExpiry, _ => execDeadTimeExpiry_completes s
  | .closeTimeout, _ => execCloseTimeout_completes s
  | .releaseDeadline, _ => execReleaseDeadline_completes s
  | .fallbackTimeout, _ => execFallbackTimeout_completes s
  | .fuelPulse p, _ => execFuelPulse_completes p s
  | .nozzleLift p, _ => execNozzleLift_completes p s
  | .hangUp p, _ => execHangUp_completes p s
  | .siteSecondAdvance, _ => execSiteSecondAdvance_completes s
  | .supplyOkFall, _ => .ite .next .next
  | .supplyOkRise, _ => .ite .next .next
  | .resumeTimerExpiry, _ => execResumeTimerExpiry_completes s
  | .resetNFall, _ => .ite .next .next
  | .resetNRise x, _ => execResetNRise_completes x s
  | .coldStart _ _, _ => .next
  | .querySet _ none, h => nomatch h
  | .querySet _ (some _), h => nomatch h

/-- Settles O3: by the rule of each command frame, and by the work of each other row. -/
theorem everyCommandCompletes : Obligations.EveryCommandCompletes := by
  intro c s
  cases h : wire c with
  | none => exact exec_event_completes s c h
  | some _ => exact exec_command_completes s (by rw [h]; rfl)

end Sys2Proof.Machine
end

section
/-! What the shared work of the Feeder Bank, the queue, the sequencer and the resets is made of: flushes,
writes of feeder records that keep their terms and their interval energy, and changes of the queue, the
transfer in hand and its record, the flags with a snapshot, and the count of free choices. -/

namespace Sys2Proof.Machine

/-- A state with the orders, the transfer in hand and its record, the notices and the count of free choices
taken from another. -/
def State.withOrdersOf (s t : State) : State :=
  { s with
    queue := t.queue, lastOutcome := t.lastOutcome, flags := t.flags, snapshot := t.snapshot
    transfer := t.transfer, choices := t.choices }

/-- No flag is cleared, and no snapshot is taken. -/
def State.NotesOnward (s t : State) : Prop :=
  (s.snapshot = none → t.snapshot = none) ∧ ∀ b, s.flags.getLsbD b = true → t.flags.getLsbD b = true

/-- The second state comes from the first by flushes, by writes of feeder records that keep their terms and
their interval energy, and by changes beside the set and feeder tables that clear no flag. -/
inductive FeederWork : State → State → Prop
  | aside {s t : State} (beside : t = s.withOrdersOf t)
      (notes : s.NotesOnward t := by exact ⟨id, fun _ h => h⟩) : FeederWork s t
  | feeder {s : State} {ch : Channel} {f : Feeder} :
      f.sameTerms (s.feeder ch) → f.interval = (s.feeder ch).interval → FeederWork s (s.putFeeder ch f)
  | flush (s : State) (ch : Channel) : FeederWork s (s.flush ch)
  | trans {s t u : State} : FeederWork s t → FeederWork t u → FeederWork s u

namespace FeederWork

theorem refl (s : State) : FeederWork s s := .aside rfl

/-- `trans` with the later work first, from which the state between is read off. -/
theorem after {s t u : State} (b : FeederWork t u) (a : FeederWork s t) : FeederWork s u := a.trans b

/-- A write of a feeder record that names neither its terms nor its interval energy. -/
theorem state (s : State) (ch : Channel) {f : Feeder}
    (h : f.sameTerms (s.feeder ch) ∧ f.interval = (s.feeder ch).interval := by
      exact ⟨⟨rfl, rfl, rfl, rfl, rfl, rfl⟩, rfl⟩) : FeederWork s (s.putFeeder ch f) := .feeder h.1 h.2

theorem ite {s t u : State} {c : Prop} [Decidable c] (a : FeederWork s t) (b : FeederWork s u) :
    FeederWork s (if c then t else u) := by
  split
  · exact a
  · exact b

theorem foldl {α : Type} {f : State → α → State} (each : ∀ s a, FeederWork s (f s a)) (l : List α)
    (s : State) : FeederWork s (l.foldl f s) := by
  induction l generalizing s with
  | nil => exact refl s
  | cons a l ih => exact (each s a).trans (ih _)

/-! ## Notices, drives and orders -/

theorem raise (s : State) (f : Flag) : FeederWork s (s.raise f) := by
  rcases s.raise_cases f with same | ⟨_, _, raised⟩
  · rw [same]; exact refl s
  · rw [raised]
    refine .aside rfl ⟨fun none => by simp [none], fun b set => ?_⟩
    simp only [BitVec.getLsbD_or, set, Bool.true_or]

theorem raiseIf (s : State) (c : Bool) (f : Flag) : FeederWork s (s.raiseIf c f) := ite (raise s f) (refl s)

theorem rewatch (s : State) (ch : Channel) (ms : Nat) : FeederWork s (s.rewatch ch ms) := state s ch

theorem driveSide (s : State) (ch : Channel) (d : Side) (closed : Bool) :
    FeederWork s (s.driveSide ch d closed) := state s ch

theorem driveOpen (s : State) (ch : Channel) : FeederWork s (s.driveOpen ch) := state s ch

theorem recordLast (s : State) (ch : Channel) (d : Side) (o : TransferOutcome) (r : Reason) :
    FeederWork s (s.recordLast ch d o r) := state s ch

theorem removeOrder (s : State) (ch : Channel) (o : TransferOutcome) (r : Reason) :
    FeederWork s (s.removeOrder ch o r) := by
  rcases s.removeOrder_cases ch o r with ⟨_, h⟩ | ⟨ord, _, h⟩
  · rw [h]; exact refl s
  · rw [h]; exact after (recordLast _ _ _ _ _) (.aside rfl)

theorem faultFeeder (s : State) (ch : Channel) (cause : FaultCause) :
    FeederWork s (s.faultFeeder ch cause) :=
  (flush s ch).trans <| (driveOpen _ ch).trans <| (state _ ch).trans <|
    (removeOrder _ ch _ _).trans (raise _ _)

theorem drawOrder (s : State) (l : List Channel) : FeederWork s (s.drawOrder l).2 := by
  rw [s.drawOrder_state l]
  exact .aside rfl

/-! ## The Transfer Sequencer -/

theorem endTransfer (s : State) (t : Transfer) (st : FeederState) (cause : FaultCause) (o : TransferOutcome)
    (r : Reason) (flags : List Flag) : FeederWork s (s.endTransfer t st cause o r flags) := by
  have opened : FeederWork s (if st = .fault then s.driveOpen t.feeder else s) :=
    ite (driveOpen s _) (refl s)
  exact opened.trans <| (state _ t.feeder).trans <| (recordLast _ _ _ _ _).trans <|
    (aside rfl).trans <| (foldl raise flags _).trans (rewatch _ _ _)

theorem beginDead (s : State) (t : Transfer) : FeederWork s (s.beginDead t) := .aside rfl

theorem beginOpening (s : State) (t : Transfer) (d : Side) : FeederWork s (s.beginOpening t d) :=
  (driveSide s t.feeder d false).trans <| ite (.aside rfl) (beginDead _ _)

theorem beginClosing (s : State) (t : Transfer) : FeederWork s (s.beginClosing t) :=
  (driveSide s t.feeder t.target true).trans <| ite (endTransfer _ _ _ _ _ _ _) (.aside rfl)

theorem beginReleasing (s : State) (t : Transfer) : FeederWork s (s.beginReleasing t) :=
  (driveSide s t.feeder t.target false).trans <| ite (.aside rfl) (endTransfer _ _ _ _ _ _ _)

theorem beginFallback (s : State) (t : Transfer) (d : Side) (why : FallbackReason) :
    FeederWork s (s.beginFallback t d why) :=
  ((driveSide s t.feeder t.target false).trans (driveSide _ t.feeder d true)).trans <|
    ite (endTransfer _ _ _ _ _ _ _) (.aside rfl)

theorem openTimedOut (s : State) (t : Transfer) (d : Side) : FeederWork s (s.openTimedOut t d) :=
  (driveSide s t.feeder d true).trans (endTransfer _ _ _ _ _ _ _)

theorem testPhase (s : State) (t : Transfer) : FeederWork s (s.testPhase t) := by
  have ends := endTransfer s t
  unfold State.testPhase
  split
  · exact ite (refl s) (beginDead s t)
  · exact refl s
  · exact refl s
  · exact ite (ite (refl s) (ends _ _ _ _ _)) (ite (ends _ _ _ _ _) (refl s))
  · exact ite (ends _ _ _ _ _) (refl s)
  · exact refl s

theorem take (s : State) (ch : Channel) (target : Side) : FeederWork s (s.take ch target) := by
  refine (flush s ch).trans ?_
  unfold State.take
  dsimp only
  split
  · exact after (beginOpening _ _ _) (state _ ch)
  · exact after (beginClosing _ _) (state _ ch)

/-! ## The Transfer Queue -/

theorem scan (s : State) : FeederWork s s.scan := by
  have pass : FeederWork s (s.scanPass false s.queue).1 := by
    rcases s.scanPass_cases s.queue with ⟨_, none_handed⟩ | ⟨_, o, _, _, _, _, handed⟩
    · rw [none_handed]; exact refl s
    · rw [handed]; exact take s o.feeder o.target
  exact pass.trans (.aside rfl)

theorem scanIfIdle (s : State) : FeederWork s s.scanIfIdle := ite (scan s) (refl s)

theorem expireOrders (s : State) : FeederWork s s.expireOrders :=
  after (foldl (f := State.expireOne) (fun _ _ => (recordLast _ _ _ _ _).trans (raise _ _)) _ _) (.aside rfl)

/-! ## Opening by command, open checks and feedback -/

theorem openByCommand (s : State) (ch : Channel) : FeederWork s (s.openByCommand ch) := by
  unfold State.openByCommand
  refine (flush s ch).trans <| (driveOpen _ ch).trans <| trans ?_ <|
    (removeOrder _ ch _ _).trans ((state _ ch).trans (rewatch _ ch 0))
  split
  · exact ite (endTransfer _ _ _ _ _ _ _) (refl _)
  · exact refl _

theorem passOpenCheck (s : State) (ch : Channel) : FeederWork s (s.passOpenCheck ch) :=
  (state s ch).trans <| (rewatch _ ch 0).trans (scan _)

theorem feedbackSeen (s : State) (ch : Channel) (d : Side) : FeederWork s (s.feedbackSeen ch d) := by
  unfold State.feedbackSeen
  split
  · exact ite ((testPhase s _).trans (scanIfIdle _)) (refl s)
  · exact ite (ite (passOpenCheck s ch) (refl s)) (rewatch s ch 0)

/-! ## Resets -/

theorem rederive (s : State) (ch : Channel) : FeederWork s (s.rederive ch) :=
  ite (faultFeeder s ch _) (state s ch)

theorem resetTransfer (s : State) : FeederWork s s.resetTransfer := by
  unfold State.resetTransfer
  split
  · exact refl s
  · exact (rederive s _).trans (endTransfer _ _ _ _ _ _ _)

theorem deactivate (s : State) (ch : Channel) : FeederWork s (s.deactivate ch) :=
  (flush s ch).trans <| (driveOpen _ ch).trans <| (removeOrder _ ch _ _).trans (state _ ch)

theorem rederiveRest (s : State) (done : Option Channel) : FeederWork s (s.rederiveRest done) :=
  (drawOrder s _).trans <| foldl (fun s ch => ite (rewatch s ch 0) (ite (rederive s ch) (refl s))) _ _

end FeederWork

end Sys2Proof.Machine
end

section
/-! What the rows that write no record but by shared work do to the tables: they carry interval energy to
hired sets, and leave the keys, the references and every other figure of the sets, the accounts, the positions,
the suppliers and the curves as they were. -/

namespace Sys2Proof.Machine

/-! ## Energy carried to a set (R53, R70) -/

/-- A set's record after energy was carried to it under several accounts, one after the other. -/
def SetRec.carryAll (r : SetRec) (moved : List (AccountSlot × Nat)) : SetRec :=
  moved.foldl (fun r p => r.carry p.1 p.2) r

theorem SetRec.carryAll_append (r : SetRec) (l m : List (AccountSlot × Nat)) :
    r.carryAll (l ++ m) = (r.carryAll l).carryAll m := List.foldl_append

/-- What holds of a record and is kept by each energy carried to it holds of it in the end. -/
theorem SetRec.carryAll_keeps {P : SetRec → Prop} {r : SetRec} (moved : List (AccountSlot × Nat)) (h : P r)
    (each : ∀ q, ∀ p ∈ moved, P q → P (q.carry p.1 p.2)) : P (r.carryAll moved) := by
  induction moved generalizing r with
  | nil => exact h
  | cons p rest ih =>
    exact ih (each r p List.mem_cons_self h) fun q p' hp' => each q p' (List.mem_cons_of_mem _ hp')

/-- Some feeder's interval energy under its account, as a flush of the feeder moves it. -/
def State.Flushable (s : State) (p : AccountSlot × Nat) : Prop :=
  ∃ ch, p = ((s.feeder ch).account, (s.feeder ch).interval) ∧ 0 < p.2

/-! ## The frame of the tables -/

/-- The hired sets stay hired and their records differ by energy carried to them; accounts, positions,
suppliers and curves are as they were, and the staging buffer is or is closed. -/
structure QuietWork (s t : State) : Prop where
  sets : ∀ i, ∃ moved, (∀ p ∈ moved, s.Flushable p) ∧ t.set? i = (s.set? i).map (·.carryAll moved)
  bound : ∀ ch, (t.feeder ch).bound = (s.feeder ch).bound
  account : ∀ ch, (t.feeder ch).account = (s.feeder ch).account
  interval : ∀ ch, (t.feeder ch).interval = (s.feeder ch).interval ∨ (t.feeder ch).interval = 0
  accounts : t.accounts = s.accounts
  positions : t.positions = s.positions
  suppliers : t.suppliers = s.suppliers
  curves : t.curves = s.curves
  staging : t.staging = s.staging ∨ t.staging = none

namespace QuietWork

theorem flushable {s t : State} (h : QuietWork s t) {p : AccountSlot × Nat} (hp : t.Flushable p) :
    s.Flushable p := by
  obtain ⟨ch, rfl, positive⟩ := hp
  rcases h.interval ch with same | zero
  · exact ⟨ch, by rw [h.account, same], positive⟩
  · simp [zero] at positive

theorem trans {s t u : State} (a : QuietWork s t) (b : QuietWork t u) : QuietWork s u where
  sets i := by
    obtain ⟨l, hl, el⟩ := a.sets i
    obtain ⟨m, hm, em⟩ := b.sets i
    refine ⟨l ++ m, fun p hp => (List.mem_append.mp hp).elim (hl p) fun h => a.flushable (hm p h), ?_⟩
    rw [em, el, Option.map_map]
    exact congrFun (congrArg _ (funext fun r => (r.carryAll_append l m).symm)) _
  bound ch := (b.bound ch).trans (a.bound ch)
  account ch := (b.account ch).trans (a.account ch)
  interval ch := (b.interval ch).elim (fun h => h ▸ a.interval ch) .inr
  accounts := b.accounts.trans a.accounts
  positions := b.positions.trans a.positions
  suppliers := b.suppliers.trans a.suppliers
  curves := b.curves.trans a.curves
  staging := b.staging.elim (fun h => h ▸ a.staging) .inr

/-- A write of feeder records that keeps their bounds and accounts and adds no interval energy. -/
theorem feeders {s t : State}
    (h : ∀ ch, (t.feeder ch).bound = (s.feeder ch).bound ∧ (t.feeder ch).account = (s.feeder ch).account
      ∧ ((t.feeder ch).interval = (s.feeder ch).interval ∨ (t.feeder ch).interval = 0))
    (sets : t.sets = s.sets := by rfl) (accounts : t.accounts = s.accounts := by rfl)
    (positions : t.positions = s.positions := by rfl) (suppliers : t.suppliers = s.suppliers := by rfl)
    (curves : t.curves = s.curves := by rfl) (staging : t.staging = s.staging := by rfl) : QuietWork s t where
  sets i := ⟨[], by simp, by simp [State.set?, sets, SetRec.carryAll]⟩
  bound ch := (h ch).1
  account ch := (h ch).2.1
  interval ch := (h ch).2.2
  accounts := accounts
  positions := positions
  suppliers := suppliers
  curves := curves
  staging := .inl staging

/-- Work beside the tables. -/
theorem beside {s t : State} (sets : t.sets = s.sets := by rfl) (feeders : t.feeders = s.feeders := by rfl)
    (accounts : t.accounts = s.accounts := by rfl) (positions : t.positions = s.positions := by rfl)
    (suppliers : t.suppliers = s.suppliers := by rfl) (curves : t.curves = s.curves := by rfl)
    (staging : t.staging = s.staging := by rfl) : QuietWork s t :=
  QuietWork.feeders (fun ch => by simp [State.feeder, feeders]) sets accounts positions suppliers curves staging

theorem refl (s : State) : QuietWork s s := .beside

/-- `trans` with the later work first, from which the state between is read off. -/
theorem after {s t u : State} (b : QuietWork t u) (a : QuietWork s t) : QuietWork s u := a.trans b

theorem ite {s t u : State} {c : Prop} [Decidable c] (a : QuietWork s t) (b : QuietWork s u) :
    QuietWork s (if c then t else u) := by
  split
  · exact a
  · exact b

theorem putFeeder {s : State} {ch : Channel} {f : Feeder} (bound : f.bound = (s.feeder ch).bound)
    (account : f.account = (s.feeder ch).account)
    (interval : f.interval = (s.feeder ch).interval ∨ f.interval = 0) : QuietWork s (s.putFeeder ch f) :=
  .feeders fun c => by
    by_cases e : c = ch
    · subst e; simpa using ⟨bound, account, interval⟩
    · simp [State.feeder_putFeeder_ne _ _ e]

/-- Energy carried to one set. -/
theorem carry {s : State} (i : SetSlot) {p : AccountSlot × Nat} (hp : s.Flushable p) :
    QuietWork s (s.updSet i (·.carry p.1 p.2)) where
  sets j := by
    by_cases e : j = i
    · subst e
      exact ⟨[p], by simpa using hp, by simp [State.updSet, SetRec.carryAll]⟩
    · exact ⟨[], by simp, by simp [State.updSet, State.set?_putSet_ne _ _ e, SetRec.carryAll]⟩
  bound _ := rfl
  account _ := rfl
  interval _ := .inl rfl
  accounts := rfl
  positions := rfl
  suppliers := rfl
  curves := rfl
  staging := .inl rfl

theorem flush (s : State) (ch : Channel) : QuietWork s (s.flush ch) := by
  rcases s.flush_cases ch with h | ⟨i, _, positive, h⟩
  · rw [h]; exact refl s
  · rw [h]
    exact (carry i (p := ((s.feeder ch).account, (s.feeder ch).interval)) ⟨ch, rfl, positive⟩).trans
      (putFeeder rfl rfl (.inr rfl))

end QuietWork

/-- All shared work of feeders, queue and sequencer is quiet. -/
theorem FeederWork.quiet {s t : State} (h : FeederWork s t) : QuietWork s t := by
  induction h with
  | aside h _ => rw [h]; exact .beside
  | feeder terms same =>
    obtain ⟨bound, account, _⟩ := terms
    exact QuietWork.putFeeder bound account (.inl same)
  | flush s ch => exact QuietWork.flush s ch
  | trans _ _ a b => exact a.trans b

end Sys2Proof.Machine
end

section
/-! Which rows are quiet, and the induction that takes a condition over every step: the rows, the raw frame
that carries a row, the expiry an idle step takes, and the millisecond. -/

namespace Sys2Proof.Machine

/-! ## What a command's own rule leads to -/

/-- A condition holds of the state after whatever a command's own rule answers. -/
def Leads (P : State → Prop) (body : Except Status Reply) : Prop := ∀ r, body = .ok r → P r.state

namespace Leads

variable {P : State → Prop}

theorem error (st : Status) : Leads P (.error st) := fun _ h => nomatch h

theorem ok {st : Status} {data : List Byte} {t : State} (h : P t) : Leads P (.ok ⟨st, data, t⟩) :=
  fun _ e => by cases e; exact h

/-- A check or an operand in front of a rule refuses, or goes on with what it found. -/
theorem bind {α : Type} {x : Except Status α} {f : α → Except Status Reply}
    (h : ∀ a, x = .ok a → Leads P (f a)) : Leads P (x >>= f) := by
  cases x with
  | error st => exact error st
  | ok a => exact h a rfl

theorem ite {c : Prop} [Decidable c] {x y : Except Status Reply} (a : c → Leads P x) (b : ¬ c → Leads P y) :
    Leads P (if c then x else y) := by
  split
  · exact a ‹_›
  · exact b ‹_›

/-- A served command keeps a condition that its rule keeps and that does not speak of the result or SDO. -/
theorem serve {s t : State} {body : Except Status Reply}
    (port : ∀ (u : State) (r : Result) (o : Sdo), P u → P { u with result := r, sdo := o }) (h : P s)
    (leads : Leads P body) (next : Machine.serve s body = .next t) : P t := by
  cases hopen : s.portOpen with
  | false =>
    rw [serve_closed _ hopen] at next
    cases next
    exact port s s.result .released h
  | true =>
    cases body with
    | error st => rw [serve_error hopen] at next; cases next; exact port _ _ _ h
    | ok r => rw [serve_ok hopen] at next; cases next; exact port _ _ _ (leads r rfl)

end Leads

/-- What a check that passed has found. -/
theorem require_eq_ok {c : Bool} {st : Status} {a : Unit} (h : require c st = .ok a) : c = true := by
  cases c with
  | false => cases h
  | true => rfl

theorem hiredSet_eq_ok {s : State} {i : SetSlot} {r : SetRec} (h : hiredSet s i = .ok r) : s.set? i = some r := by
  unfold hiredSet at h
  split at h
  · cases h; assumption
  · cases h

theorem openSlot_eq_ok {s : State} {a : AccountSlot} {r : Account} (h : openSlot s a = .ok r) :
    s.account? a = some r := by
  unfold openSlot at h
  split at h
  · cases h; assumption
  · cases h

/-! ## Every step -/

/-- A condition on the state before, to which neither the port's own fields nor the commands that wait
matter, leads over every step to a condition on the state after, if each row but the raw frame leads there,
and the millisecond. -/
structure StepLeads (P Q : State → Prop) : Prop where
  waits : ∀ (s : State) (p : List Instr) (k : Nat) (n : Option Snapshot),
    P s → P { s with pending := p, choices := k, snapshot := n }
  port : ∀ (s : State) (r : Result) (o : Sdo), P s → Q { s with result := r, sdo := o }
  rows : ∀ (c : Instr) (s t : State), (∀ f, c ≠ .unknownCommand f) → P s → exec c s = .next t → Q t
  tick : ∀ s : State, P s → Q s.tick

namespace StepLeads

variable {P Q : State → Prop}

theorem readAttentionFrame (h : StepLeads P Q) {bits : Nat} {s t : State} (hs : P s)
    (next : Machine.readAttentionFrame bits s = .next t) : Q t := by
  unfold Machine.readAttentionFrame at next
  split at next
  · exact h.rows (.readAttention bits) s t nofun hs next
  · have taken (n) : P { s with snapshot := n } := h.waits s s.pending s.choices n hs
    unfold execSnapshot at next
    dsimp only at next
    split at next
    · exact h.rows (.readAttention bits) _ t nofun (taken (some ⟨s.flags, 0⟩)) next
    · exact h.rows (.readAttention bits) s t nofun hs next

theorem carryOut (h : StepLeads P Q) {c : Instr} {s t : State} (hs : P s)
    (next : Machine.carryOut c s = .next t) : Q t := by
  rcases carryOut_cases c s with ⟨command, own⟩ | ⟨_, ⟨bits, rfl⟩ | ⟨bits, rfl⟩ | nothing⟩
  · rw [own] at next
    exact h.rows c s t (fun f e => by subst e; cases command) hs next
  · exact h.rows (.fetchResult bits) s t nofun hs next
  · exact h.readAttentionFrame hs next
  · rw [nothing] at next
    cases next
    exact h.port s s.result s.sdo hs

theorem unknownCommand (h : StepLeads P Q) {f : Frame} {s t : State} (hs : P s)
    (next : execUnknownCommand f s = .next t) : Q t := by
  unfold execUnknownCommand at next
  split at next
  · split at next
    · cases next; exact h.port s s.result .low hs
    · cases next; exact h.port s _ .low hs
    · cases next; exact h.port s _ .low hs
    · exact h.carryOut hs next
  · cases next; exact h.port s s.result .released hs

theorem exec (h : StepLeads P Q) {c : Instr} {s t : State} (hs : P s) (next : Machine.exec c s = .next t) :
    Q t := by
  by_cases raw : ∃ f, c = .unknownCommand f
  · obtain ⟨f, rfl⟩ := raw
    exact h.unknownCommand hs next
  · exact h.rows c s t (fun f e => raw ⟨f, e⟩) hs next

/-- The expiry an idle step takes runs on the state with no more than the count of free choices changed. -/
theorem dueChoice_state {s u : State} {c : Instr} (h : s.dueChoice = some (c, u)) :
    u = { s with choices := u.choices } := by
  unfold State.dueChoice at h
  split at h <;> cases h <;> rfl

theorem step (h : StepLeads P Q) {s t : State} (hs : P s) (next : Machine.step s = .next t) : Q t := by
  unfold Machine.step at next
  split at next
  · exact h.exec (h.waits s _ s.choices s.snapshot hs) next
  · split at next
    · rename_i c u due
      rw [dueChoice_state due] at next
      exact h.exec (h.waits s s.pending u.choices s.snapshot hs) next
    · cases next
      exact h.tick s hs

end StepLeads

/-! ## The quiet rows -/

/-- The rows that write no set, account, position, supplier or curve record, and of a feeder neither the bound
sets nor the account, but by shared work. -/
def quietRow : Instr → Bool
  | .hireSet .. | .reportRun .. | .amendSet .. | .dipSet .. | .offHireSet .. | .beginCurve .. | .loadCurvePoint ..
  | .bindSide .. | .assignFeederAccount .. | .registerSupplier .. | .openTicket .. | .setPermitMode ..
  | .closeTicket .. | .cancelTicket .. | .openAccount .. | .settleAccount .. | .releaseStatement ..
  | .retireAccount .. | .placeHold .. | .releaseAllHolds | .energyPulse .. | .intervalExpiry .. | .fuelPulse ..
  | .nozzleLift .. | .hangUp .. | .coldStart .. | .unknownCommand .. => false
  | _ => true

namespace QuietWork

theorem serve {s t : State} {body : Except Status Reply} (leads : Leads (QuietWork s) body)
    (next : Machine.serve s body = .next t) : QuietWork s t :=
  Leads.serve (fun _ _ _ h => h.trans .beside) (refl s) leads next

/-- A rule that reads, behind any checks, is quiet. -/
theorem reads (s : State) {st : Status} {data : List Byte} : Leads (QuietWork s) (.ok ⟨st, data, s⟩) :=
  .ok (refl s)

theorem ofNext {s t u : State} (h : QuietWork s u)
    (next : (Host.Outcome.next u : Host.Outcome State Fault Refusal) = .next t) : QuietWork s t := by
  cases next
  exact h

/-! ### Commands -/

theorem readAttention (bits : Nat) (s : State) {t : State} (next : execReadAttention bits s = .next t) :
    QuietWork s t := by
  refine ofNext ?_ next
  split
  · exact .beside
  · exact ite .beside .beside

theorem resetPort (s : State) : QuietWork s s.resetPort where
  sets i := ⟨[], by simp, by simp [State.set?, SetRec.carryAll]⟩
  bound _ := rfl
  account _ := rfl
  interval _ := .inl rfl
  accounts := rfl
  positions := rfl
  suppliers := rfl
  curves := rfl
  staging := .inr rfl

theorem restart (s : State) {t : State} (next : execRestart s = .next t) : QuietWork s t := by
  refine ofNext (ite ?_ .beside) next
  exact (resetPort s).trans <| ((FeederWork.resetTransfer _).trans <| (FeederWork.rederiveRest _ _).trans
    (FeederWork.scan _)).quiet.trans .beside

theorem openFeeder (channel : Byte) (s : State) {t : State} (next : execOpenFeeder channel s = .next t) :
    QuietWork s t := by
  refine serve (.bind fun ch _ => .ok ?_) next
  split
  · exact refl s
  · exact ((FeederWork.openByCommand s ch).trans (.scan _)).quiet
  · exact (FeederWork.openByCommand s ch).quiet

theorem setClock (minute : BitVec 24) (s : State) {t : State} (next : execSetClock minute s = .next t) :
    QuietWork s t := by
  refine serve (.bind fun _ _ => .ok ?_) next
  exact after ((FeederWork.expireOrders _).trans (.scan _)).quiet .beside

theorem findSet (unit : BitVec 32) (s : State) {t : State} (next : execFindSet unit s = .next t) :
    QuietWork s t := by
  refine serve ?_ next
  split
  · exact reads s
  · exact .error _

theorem findAccount (code : BitVec 32) (s : State) {t : State} (next : execFindAccount code s = .next t) :
    QuietWork s t := by
  refine serve ?_ next
  split
  · exact reads s
  · exact .error _

theorem fetchStatement (slot : Byte) (s : State) {t : State} (next : execFetchStatement slot s = .next t) :
    QuietWork s t := by
  refine serve (.bind fun _ _ => .bind fun _ _ => ?_) next
  split
  · exact .error _
  · exact reads s

theorem setFeederParameters (channel weight deadTime : Byte) (s : State) {t : State}
    (next : execSetFeederParameters channel weight deadTime s = .next t) : QuietWork s t := by
  refine serve (.bind fun _ _ => .bind fun _ _ => .bind fun _ _ => .ok ?_) next
  exact putFeeder rfl rfl (.inl rfl)

theorem reconcileFeeder (channel : Byte) (s : State) {t : State}
    (next : execReconcileFeeder channel s = .next t) : QuietWork s t := by
  refine serve (.bind fun ch _ => .ite (fun _ => .ok ?_) fun _ => reads s) next
  exact ((FeederWork.state s ch).trans <| (FeederWork.rewatch _ ch 0).trans (.scan _)).quiet

theorem enqueueOrder (channel side : Byte) (startMin endMin : BitVec 24) (s : State) {t : State}
    (next : execEnqueueOrder channel side startMin endMin s = .next t) : QuietWork s t := by
  refine serve (.bind fun _ _ => .bind fun _ _ => .bind fun _ _ => .bind fun _ _ => .bind fun _ _ =>
    .bind fun _ _ => .bind fun _ _ => .bind fun _ _ => .bind fun _ _ => .bind fun _ _ => .bind fun _ _ => .ok ?_) next
  exact after (FeederWork.scan _).quiet .beside

theorem cancelOrder (channel : Byte) (s : State) {t : State} (next : execCancelOrder channel s = .next t) :
    QuietWork s t := by
  refine serve (.bind fun ch _ => .bind fun _ _ => ?_) next
  split
  · exact .error _
  · exact .ok (FeederWork.removeOrder s ch _ _).quiet

/-! ### Events -/

theorem feedbackChange (ch : Channel) (d : Side) (level : Bool) (s : State) {t : State}
    (next : execFeedbackChange ch d level s = .next t) : QuietWork s t := by
  refine ofNext (ite (refl s) ?_) next
  exact ite (after (FeederWork.feedbackSeen _ ch d).quiet .beside) .beside

theorem openTimeout (s : State) {t : State} (next : execOpenTimeout s = .next t) : QuietWork s t := by
  refine ofNext ?_ next
  split
  · split
    · exact ((FeederWork.openTimedOut s _ _).trans (.scanIfIdle _)).quiet
    · exact refl s
  · exact refl s

theorem deadTimeExpiry (s : State) {t : State} (next : execDeadTimeExpiry s = .next t) : QuietWork s t := by
  refine ofNext ?_ next
  split
  · split
    · exact ite ((FeederWork.beginClosing s _).trans (.scanIfIdle _)).quiet
        ((FeederWork.beginFallback s _ _ _).trans (.scanIfIdle _)).quiet
    · exact refl s
  · exact refl s

theorem closeTimeout (s : State) {t : State} (next : execCloseTimeout s = .next t) : QuietWork s t := by
  refine ofNext ?_ next
  split
  · split
    · exact ((FeederWork.beginFallback s _ _ _).trans (.scanIfIdle _)).quiet
    · exact ((FeederWork.beginReleasing s _).trans (.scanIfIdle _)).quiet
    · exact refl s
  · exact refl s

theorem releaseDeadline (s : State) {t : State} (next : execReleaseDeadline s = .next t) : QuietWork s t := by
  refine ofNext ?_ next
  split
  · split
    · exact ((FeederWork.endTransfer s _ _ _ _ _ _).trans (.scanIfIdle _)).quiet
    · exact refl s
  · exact refl s

theorem fallbackTimeout (s : State) {t : State} (next : execFallbackTimeout s = .next t) : QuietWork s t := by
  refine ofNext ?_ next
  split
  · split
    · exact ((FeederWork.endTransfer s _ _ _ _ _ _).trans (.scanIfIdle _)).quiet
    · exact refl s
  · exact refl s

theorem minuteAdvance (s : State) : QuietWork s s.minuteAdvance := by
  refine after ((FeederWork.expireOrders _).trans (.scan _)).quiet (ite .beside .beside)

theorem siteSecondAdvance (s : State) {t : State} (next : execSiteSecondAdvance s = .next t) :
    QuietWork s t := by
  refine ofNext (ite (ite .beside ?_) (refl s)) next
  exact ite (after (minuteAdvance _) .beside) .beside

theorem resumeTimerExpiry (s : State) {t : State} (next : execResumeTimerExpiry s = .next t) :
    QuietWork s t :=
  ofNext (ite (after ((FeederWork.raise _ _).trans (.scan _)).quiet .beside) (refl s)) next

theorem sampleStraps (s : State) (x : Straps) : QuietWork s (s.sampleStraps x) :=
  after .beside (ite (FeederWork.foldl FeederWork.deactivate upperChannels s).quiet (refl s))

theorem resetNRise (x : Straps) (s : State) {t : State} (next : execResetNRise x s = .next t) :
    QuietWork s t := by
  refine ofNext (ite (refl s) ?_) next
  refine after ((FeederWork.rederiveRest _ _).trans (.scan _)).quiet (after (sampleStraps _ x) ?_)
  exact after (FeederWork.resetTransfer _).quiet (after (resetPort _) .beside)

end QuietWork

/-- Every quiet row does quiet work. -/
theorem exec_quiet (s t : State) : ∀ c : Instr, quietRow c = true → exec c s = .next t → QuietWork s t
  | .fetchResult _, _, h => .ofNext (.ite .beside .beside) h
  | .readAttention bits, _, h => .readAttention bits s h
  | .snapshot, _, h => .ofNext (.ite .beside .beside) h
  | .setAttentionMask _, _, h => .serve (.ok .beside) h
  | .identify, _, h => .serve (.reads s) h
  | .restart, _, h => .restart s h
  | .setClock minute, _, h => .setClock minute s h
  | .queryClock, _, h => .serve (.reads s) h
  | .querySet _ _, _, h => .serve (.bind fun _ _ => .bind fun _ _ => .bind fun _ _ => .reads s) h
  | .findSet unit, _, h => .findSet unit s h
  | .queryCurve _, _, h => .serve (.bind fun _ _ => .reads s) h
  | .setFeederParameters c w d, _, h => .setFeederParameters c w d s h
  | .openFeeder c, _, h => .openFeeder c s h
  | .reconcileFeeder c, _, h => .reconcileFeeder c s h
  | .queryFeeder _, _, h => .serve (.bind fun _ _ => .reads s) h
  | .enqueueOrder c d a b, _, h => .enqueueOrder c d a b s h
  | .cancelOrder c, _, h => .cancelOrder c s h
  | .queryQueue, _, h => .serve (.reads s) h
  | .querySequencer, _, h => .serve (.reads s) h
  | .setTransferParameters _ _ _, _, h => .serve (.ok .beside) h
  | .querySupplier _, _, h => .serve (.bind fun _ _ => .reads s) h
  | .queryPosition _, _, h => .serve (.bind fun _ _ => .reads s) h
  | .queryAccount _, _, h => .serve (.bind fun _ _ => .bind fun _ _ => .reads s) h
  | .findAccount code, _, h => .findAccount code s h
  | .fetchStatement slot, _, h => .fetchStatement slot s h
  | .setBandRate _ _, _, h => .serve (.bind fun _ _ => .ok .beside) h
  | .setFuelPrice _, _, h => .serve (.ok .beside) h
  | .setScheduleSlot _ _, _, h => .serve (.bind fun _ _ => .bind fun _ _ => .ok .beside) h
  | .queryTariff, _, h => .serve (.reads s) h
  | .feedbackChange ch d level, _, h => .feedbackChange ch d level s h
  | .disagreementTimerExpiry ch _, _, h => .ofNext (.ite (FeederWork.faultFeeder s ch _).quiet (.refl s)) h
  | .openCheckDeadline ch, _, h => .ofNext (.ite (.ite (FeederWork.passOpenCheck s ch).quiet
      (FeederWork.faultFeeder s ch _).quiet) (.refl s)) h
  | .openTimeout, _, h => .openTimeout s h
  | .deadTimeExpiry, _, h => .deadTimeExpiry s h
  | .closeTimeout, _, h => .closeTimeout s h
  | .releaseDeadline, _, h => .releaseDeadline s h
  | .fallbackTimeout, _, h => .fallbackTimeout s h
  | .siteSecondAdvance, _, h => .siteSecondAdvance s h
  | .supplyOkFall, _, h => .ofNext (.ite .beside (.refl s)) h
  | .supplyOkRise, _, h => .ofNext (.ite (.refl s) .beside) h
  | .resumeTimerExpiry, _, h => .resumeTimerExpiry s h
  | .resetNFall, _, h => .ofNext (.ite .beside (.refl s)) h
  | .resetNRise x, _, h => .resetNRise x s h

end Sys2Proof.Machine
end

section
/-! What an evaluation and the accounts' postings reach (R34 to R41, R51, R80, R147), for every condition on
the tables: one set's record, the demand and interval energy of the feeders collected, the totals of accounts,
the queue, and the flags with a snapshot. -/

namespace Sys2Proof.Machine

/-! ## Notices and relief -/

theorem State.raiseEntries_eq (s : State) (before after : Conds) :
    s.raiseEntries before after = { s with
      flags := (s.raiseEntries before after).flags, snapshot := (s.raiseEntries before after).snapshot } := by
  unfold State.raiseEntries
  rw [State.raiseIf_eq _ _ .uncosted, State.raiseIf_eq _ _ .overload, State.raiseIf_eq _ _ .dry,
    State.raiseIf_eq _ _ .reserve]

theorem State.writeSet_eq (s : State) (i : SetSlot) (before after : SetRec) :
    s.writeSet i before after = { s.putSet i (some after) with
      flags := (s.writeSet i before after).flags, snapshot := (s.writeSet i before after).snapshot } :=
  State.raiseEntries_eq _ _ _

theorem State.placeRelief_eq (window : Nat) (l : List Channel) (s : State) :
    s.placeRelief window l = { s with
      queue := (s.placeRelief window l).queue, flags := (s.placeRelief window l).flags
      snapshot := (s.placeRelief window l).snapshot } := by
  induction l generalizing s with
  | nil => rfl
  | cons ch rest ih =>
    unfold State.placeRelief
    split
    · rw [State.raise_eq]
    · rw [ih]

/-- Relief generation reaches the queue and the notices (R93). -/
theorem State.generateRelief_eq (s : State) (i : SetSlot) (relief : Option SetSlot) (window : Nat) :
    s.generateRelief i relief window = { s with
      queue := (s.generateRelief i relief window).queue, flags := (s.generateRelief i relief window).flags
      snapshot := (s.generateRelief i relief window).snapshot } := by
  unfold State.generateRelief
  split
  · rfl
  · dsimp only
    split
    · rw [State.placeRelief_eq]
    · rw [State.raiseIf_eq]

theorem State.reliefAtEntry_eq (s : State) (i : SetSlot) (before after : SetRec) :
    s.reliefAtEntry i before after = { s with
      queue := (s.reliefAtEntry i before after).queue, flags := (s.reliefAtEntry i before after).flags
      snapshot := (s.reliefAtEntry i before after).snapshot } := by
  unfold State.reliefAtEntry
  split
  · exact State.generateRelief_eq s i _ _
  · rfl

/-! ## Accounts -/

theorem State.postAccount_eq (s : State) (a : AccountSlot) (r : Account) (cut : Bool) :
    s.postAccount a r cut = { s.putAccount a (some { r with saturated := r.saturated || cut }) with
      flags := (s.postAccount a r cut).flags, snapshot := (s.postAccount a r cut).snapshot } :=
  State.raiseIf_eq _ _ _

/-- Crediting a share reaches the accounts and the notices (R80). -/
theorem State.creditShare_eq (s : State) (a : AccountSlot) (x : Nat) :
    s.creditShare a x = { s with
      accounts := (s.creditShare a x).accounts, flags := (s.creditShare a x).flags
      snapshot := (s.creditShare a x).snapshot } := by
  unfold State.creditShare
  split
  · rfl
  · dsimp only
    rw [State.postAccount_eq]
    rfl

theorem State.creditShares_eq (s : State) (shares : List (AccountSlot × Nat)) :
    s.creditShares shares = { s with
      accounts := (s.creditShares shares).accounts, flags := (s.creditShares shares).flags
      snapshot := (s.creditShares shares).snapshot } := by
  induction shares generalizing s with
  | nil => rfl
  | cons p rest ih =>
    have tail : s.creditShares (p :: rest) = (s.creditShare p.1 p.2).creditShares rest := rfl
    rw [tail, ih, State.creditShare_eq]

/-- Billing energy reaches the accounts and the notices (R51). -/
theorem State.billEnergy_eq (s : State) (a : AccountSlot) (w : Nat) :
    s.billEnergy a w = { s with
      accounts := (s.billEnergy a w).accounts, flags := (s.billEnergy a w).flags
      snapshot := (s.billEnergy a w).snapshot } := by
  unfold State.billEnergy
  split
  · rfl
  · dsimp only
    rw [State.postAccount_eq]
    rfl

/-- The open accounts and their codes stand. -/
def SameCodes (s t : State) : Prop := ∀ a, (t.account? a).map (·.code) = (s.account? a).map (·.code)

theorem SameCodes.putAccount {s : State} {a : AccountSlot} {r x : Account} (h : s.account? a = some x)
    (code : r.code = x.code) : SameCodes s (s.putAccount a (some r)) := by
  intro b
  by_cases e : b = a
  · subst e; simp [h, code]
  · rw [State.account?_putAccount_ne _ _ e]

theorem SameCodes.postAccount {s : State} {a : AccountSlot} {r x : Account} (cut : Bool)
    (h : s.account? a = some x) (code : r.code = x.code) : SameCodes s (s.postAccount a r cut) := by
  rw [State.postAccount_eq]
  exact SameCodes.putAccount (r := { r with saturated := r.saturated || cut }) h code

theorem SameCodes.billEnergy (s : State) (a : AccountSlot) (w : Nat) : SameCodes s (s.billEnergy a w) := by
  unfold State.billEnergy
  split
  · exact fun _ => rfl
  · rename_i r found
    exact SameCodes.postAccount (x := r) _ found rfl

theorem SameCodes.creditShare (s : State) (a : AccountSlot) (x : Nat) : SameCodes s (s.creditShare a x) := by
  unfold State.creditShare
  split
  · exact fun _ => rfl
  · rename_i r found
    exact SameCodes.postAccount (x := r) _ found rfl

theorem SameCodes.creditShares (s : State) (shares : List (AccountSlot × Nat)) :
    SameCodes s (s.creditShares shares) := by
  induction shares generalizing s with
  | nil => exact fun _ => rfl
  | cons p rest ih => exact fun a => (ih (s.creditShare p.1 p.2) a).trans (SameCodes.creditShare s p.1 p.2 a)

/-! ## Collect (R34, R35) -/

theorem mem_channels (ch : Channel) : ch ∈ channels := by revert ch; decide

theorem channels_nodup : channels.Nodup := by decide

/-- Collecting over some channels takes the interval energy of those that the set supplies. -/
theorem State.collectOver (i : SetSlot) (secs : Nat) (l : List Channel) (distinct : l.Nodup) (s : State) :
    let t := l.foldl (fun s ch => if s.suppliedBy i ch then s.putFeeder ch ((s.feeder ch).collected secs) else s) s
    t = { s with feeders := t.feeders } ∧ ∀ ch, t.feeder ch =
      if ch ∈ l ∧ s.suppliedBy i ch = true then (s.feeder ch).collected secs else s.feeder ch := by
  induction l generalizing s with
  | nil => exact ⟨rfl, by simp⟩
  | cons c rest ih =>
    obtain ⟨fresh, distinct⟩ := List.nodup_cons.mp distinct
    rw [List.foldl_cons]
    by_cases supplied : s.suppliedBy i c = true
    · rw [if_pos supplied]
      obtain ⟨frame, each⟩ := ih distinct (s.putFeeder c ((s.feeder c).collected secs))
      refine ⟨frame, fun ch => ?_⟩
      rw [each ch]
      by_cases e : ch = c
      · subst e; simp [fresh, supplied]
      · simp [State.suppliedBy, State.feeder_putFeeder_ne _ _ e, e]
    · rw [if_neg supplied]
      obtain ⟨frame, each⟩ := ih distinct s
      refine ⟨frame, fun ch => ?_⟩
      rw [each ch]
      by_cases e : ch = c
      · subst e; simp [supplied]
      · simp [e]

theorem State.collectFeeders_eq (s : State) (i : SetSlot) (secs : Nat) :
    s.collectFeeders i secs = { s with feeders := (s.collectFeeders i secs).feeders } :=
  (State.collectOver i secs channels channels_nodup s).1

theorem State.feeder_collectFeeders (s : State) (i : SetSlot) (secs : Nat) (ch : Channel) :
    (s.collectFeeders i secs).feeder ch =
      if s.suppliedBy i ch then (s.feeder ch).collected secs else s.feeder ch := by
  have h := (State.collectOver i secs channels channels_nodup s).2 ch
  simpa [State.collectFeeders, mem_channels] using h

theorem QuietWork.collectFeeders (s : State) (i : SetSlot) (secs : Nat) :
    QuietWork s (s.collectFeeders i secs) := by
  have frame := s.collectFeeders_eq i secs
  refine .feeders (fun ch => ?_) (by rw [frame]) (by rw [frame]) (by rw [frame]) (by rw [frame]) (by rw [frame])
    (by rw [frame])
  rw [State.feeder_collectFeeders]
  split
  · exact ⟨rfl, rfl, .inr rfl⟩
  · exact ⟨rfl, rfl, .inl rfl⟩

/-! ## The evaluation -/

/-- An evaluation of a hired set, stage by stage. -/
theorem State.evaluate_eq {s : State} {i : SetSlot} {r : SetRec} (h : s.set? i = some r) (secs : Nat) :
    s.evaluate i secs =
      (((((s.collectFeeders i secs).writeSet i r
        (r.evaluated (s.contributions i r) s.curves[r.curve] secs)).reliefAtEntry i r
          (r.evaluated (s.contributions i r) s.curves[r.curve] secs)).creditShares
          (sharesOf (r.evaluatedBurn (s.contributions i r) s.curves[r.curve] secs) (s.contributions i r) r.idle)),
        r.evaluatedBurn (s.contributions i r) s.curves[r.curve] secs) := by
  simp only [State.evaluate, h]

/-- A free slot is not evaluated. -/
theorem State.evaluate_none {s : State} {i : SetSlot} (h : s.set? i = none) (secs : Nat) :
    s.evaluate i secs = (s, 0) := by
  simp only [State.evaluate, h]

/-- After the set's record is written, relief and the shares reach the queue, the accounts and the notices. -/
theorem State.evaluate_frame {s : State} {i : SetSlot} {r : SetRec} (h : s.set? i = some r) (secs : Nat) :
    (s.evaluate i secs).1 =
      { (s.collectFeeders i secs).putSet i (some (r.evaluated (s.contributions i r) s.curves[r.curve] secs)) with
        queue := (s.evaluate i secs).1.queue, accounts := (s.evaluate i secs).1.accounts
        flags := (s.evaluate i secs).1.flags, snapshot := (s.evaluate i secs).1.snapshot } := by
  rw [State.evaluate_eq h]
  dsimp only
  rw [State.creditShares_eq, State.reliefAtEntry_eq, State.writeSet_eq]

theorem State.set?_evaluate_self {s : State} {i : SetSlot} {r : SetRec} (h : s.set? i = some r) (secs : Nat) :
    (s.evaluate i secs).1.set? i = some (r.evaluated (s.contributions i r) s.curves[r.curve] secs) := by
  have frame := State.evaluate_frame h secs
  generalize s.collectFeeders i secs = u at frame
  rw [frame]
  exact State.set?_putSet_self u i _

theorem State.feeder_evaluate {s : State} {i : SetSlot} {r : SetRec} (h : s.set? i = some r) (secs : Nat)
    (ch : Channel) : (s.evaluate i secs).1.feeder ch = (s.collectFeeders i secs).feeder ch := by
  have frame := State.evaluate_frame h secs
  generalize s.collectFeeders i secs = u at frame ⊢
  rw [frame]
  rfl

theorem SameCodes.evaluate (s : State) (i : SetSlot) (secs : Nat) : SameCodes s (s.evaluate i secs).1 := by
  cases h : s.set? i with
  | none => rw [State.evaluate_none h]; exact fun _ => rfl
  | some r =>
    rw [State.evaluate_eq h]
    intro a
    refine (SameCodes.creditShares _ _ a).trans ?_
    rw [State.reliefAtEntry_eq, State.writeSet_eq, State.collectFeeders_eq]
    rfl

end Sys2Proof.Machine
end

section
/-! Keys and references between records (R6, R7, R46, R68, R77, R124, R145, R146): what each write of a record
has to meet, then every row. -/

namespace Sys2Proof.Machine

/-! ## Records that keep their keys -/

/-- A record found on one side of an equation of mapped slots stands on the other with the same image. -/
theorem exists_of_map_eq {α β : Type} {f : α → β} {x y : Option α} (h : x.map f = y.map f) {a : α}
    (found : x = some a) : ∃ b, y = some b ∧ f a = f b := by
  subst found
  cases y with
  | none => cases h
  | some b => exact ⟨b, rfl, Option.some.inj h⟩

theorem isSome_of_map_eq {α β : Type} {f : α → β} {x y : Option α} (h : x.map f = y.map f) :
    x.isSome = y.isSome := by
  simpa using congrArg Option.isSome h

/-- What other records read of a set and what it names, apart from its carried entries. -/
def SetRec.key (r : SetRec) : BitVec 32 × AccountSlot × Option SetSlot := (r.unit, r.idle, r.relief)

/-- The accounts of a set's carried entries are open. -/
def State.CarriesOpen (s : State) (r : SetRec) : Prop := ∀ p ∈ r.carried, (s.account? p.1).isSome = true

/-- The second state has the same keys and references as the first, with no more tickets, no fewer registered
suppliers, and carried entries under open accounts. -/
structure SameReferences (s t : State) : Prop where
  codes : SameCodes s t
  keys : ∀ i, (t.set? i).map SetRec.key = (s.set? i).map SetRec.key
  carried : ∀ i r, t.set? i = some r → s.CarriesOpen r
  bound : ∀ ch, (t.feeder ch).bound = (s.feeder ch).bound
  account : ∀ ch, (t.feeder ch).account = (s.feeder ch).account
  tickets : ∀ p u, (t.position p).ticket = some u →
    ∃ v, (s.position p).ticket = some v ∧ u.set = v.set ∧ u.supplier = v.supplier
  suppliers : ∀ n, (s.supplier n).docket ≠ .unregistered → (t.supplier n).docket ≠ .unregistered

namespace State.Referenced

variable {s t : State}

theorem ofSame (h : s.Referenced) (same : SameReferences s t) : t.Referenced where
  units i j r hr q hq e := by
    obtain ⟨r', hr', kr⟩ := exists_of_map_eq (same.keys i) hr
    obtain ⟨q', hq', kq⟩ := exists_of_map_eq (same.keys j) hq
    exact h.units i j r' hr' q' hq' ((congrArg Prod.fst kr).symm.trans (e.trans (congrArg Prod.fst kq)))
  codes a b r hr q hq e := by
    obtain ⟨r', hr', kr⟩ := exists_of_map_eq (same.codes a) hr
    obtain ⟨q', hq', kq⟩ := exists_of_map_eq (same.codes b) hq
    exact h.codes a b r' hr' q' hq' (kr.symm.trans (e.trans kq))
  house := (isSome_of_map_eq (same.codes 0)).trans h.house
  sides ch d i hi := by
    rw [boundSet, same.bound] at hi
    exact (isSome_of_map_eq (same.keys i)).trans (h.sides ch d i hi)
  payers ch := by
    rw [same.account]
    exact (isSome_of_map_eq (same.codes _)).trans (h.payers ch)
  idle i r hr := by
    obtain ⟨r', hr', kr⟩ := exists_of_map_eq (same.keys i) hr
    rw [show r.idle = r'.idle from congrArg (·.2.1) kr]
    exact (isSome_of_map_eq (same.codes _)).trans (h.idle i r' hr')
  relief i r hr j hj := by
    obtain ⟨r', hr', kr⟩ := exists_of_map_eq (same.keys i) hr
    rw [show r.relief = r'.relief from congrArg (·.2.2) kr] at hj
    obtain ⟨other, hired⟩ := h.relief i r' hr' j hj
    exact ⟨other, (isSome_of_map_eq (same.keys j)).trans hired⟩
  carried i r hr p hp := (isSome_of_map_eq (same.codes p.1)).trans (same.carried i r hr p hp)
  tickets p u hu := by
    obtain ⟨v, hv, set, supplier⟩ := same.tickets p u hu
    obtain ⟨hired, registered⟩ := h.tickets p v hv
    rw [set, supplier]
    exact ⟨(isSome_of_map_eq (same.keys _)).trans hired, same.suppliers _ registered⟩

/-- Work beside the tables of sets, feeders, accounts, positions and suppliers. -/
theorem beside (h : s.Referenced) (sets : t.sets = s.sets := by rfl) (feeders : t.feeders = s.feeders := by rfl)
    (accounts : t.accounts = s.accounts := by rfl) (positions : t.positions = s.positions := by rfl)
    (suppliers : t.suppliers = s.suppliers := by rfl) : t.Referenced :=
  h.ofSame
    { codes := fun a => by simp [State.account?, accounts]
      keys := fun i => by simp [State.set?, sets]
      carried := fun i r hr => h.carried i r (by rw [State.set?, ← sets]; exact hr)
      bound := fun ch => by simp [State.feeder, feeders]
      account := fun ch => by simp [State.feeder, feeders]
      tickets := fun p u hu => ⟨u, by rw [State.position, ← positions]; exact hu, rfl, rfl⟩
      suppliers := fun n => by simp [State.supplier, suppliers] }

/-- A write of the set table that keeps the keys. -/
theorem sameSets (h : s.Referenced) (keys : ∀ i, (t.set? i).map SetRec.key = (s.set? i).map SetRec.key)
    (carried : ∀ i r, t.set? i = some r → s.CarriesOpen r) (feeders : t.feeders = s.feeders := by rfl)
    (accounts : t.accounts = s.accounts := by rfl) (positions : t.positions = s.positions := by rfl)
    (suppliers : t.suppliers = s.suppliers := by rfl) : t.Referenced :=
  h.ofSame
    { codes := fun a => by simp [State.account?, accounts]
      keys := keys
      carried := carried
      bound := fun ch => by simp [State.feeder, feeders]
      account := fun ch => by simp [State.feeder, feeders]
      tickets := fun p u hu => ⟨u, by rw [State.position, ← positions]; exact hu, rfl, rfl⟩
      suppliers := fun n => by simp [State.supplier, suppliers] }

/-- A write of the account table that keeps the codes. -/
theorem sameAccounts (h : s.Referenced) (codes : SameCodes s t) (sets : t.sets = s.sets := by rfl)
    (feeders : t.feeders = s.feeders := by rfl) (positions : t.positions = s.positions := by rfl)
    (suppliers : t.suppliers = s.suppliers := by rfl) : t.Referenced :=
  h.ofSame
    { codes := codes
      keys := fun i => by simp [State.set?, sets]
      carried := fun i r hr => h.carried i r (by rw [State.set?, ← sets]; exact hr)
      bound := fun ch => by simp [State.feeder, feeders]
      account := fun ch => by simp [State.feeder, feeders]
      tickets := fun p u hu => ⟨u, by rw [State.position, ← positions]; exact hu, rfl, rfl⟩
      suppliers := fun n => by simp [State.supplier, suppliers] }

/-! ## One record written -/

/-- A set's record is written: its unit number is no other set's, and what it names exists. -/
theorem putSet (h : s.Referenced) {i : SetSlot} {r : SetRec}
    (unit : ∀ j q, j ≠ i → s.set? j = some q → q.unit ≠ r.unit) (idle : (s.account? r.idle).isSome = true)
    (relief : ∀ j, r.relief = some j → j ≠ i ∧ (s.set? j).isSome = true) (carried : s.CarriesOpen r) :
    (s.putSet i (some r)).Referenced := by
  have hired (j : SetSlot) (hj : (s.set? j).isSome = true) : ((s.putSet i (some r)).set? j).isSome = true := by
    by_cases e : j = i
    · subst e; simp
    · rwa [State.set?_putSet_ne _ _ e]
  have cases (j : SetSlot) (q : SetRec) (hq : (s.putSet i (some r)).set? j = some q) :
      (j = i ∧ q = r) ∨ (j ≠ i ∧ s.set? j = some q) := by
    by_cases e : j = i
    · subst e; simp at hq; exact .inl ⟨rfl, hq.symm⟩
    · rw [State.set?_putSet_ne _ _ e] at hq; exact .inr ⟨e, hq⟩
  constructor
  case units =>
    intro j k q hq p hp e
    rcases cases j q hq with ⟨rfl, rfl⟩ | ⟨nj, hq'⟩ <;> rcases cases k p hp with ⟨rfl, rfl⟩ | ⟨nk, hp'⟩
    · rfl
    · exact absurd e.symm (unit k p nk hp')
    · exact absurd e (unit j q nj hq')
    · exact h.units j k q hq' p hp' e
  case codes => exact h.codes
  case house => exact h.house
  case sides => exact fun ch d j hj => hired j (h.sides ch d j hj)
  case payers => exact h.payers
  case idle =>
    intro j q hq
    rcases cases j q hq with ⟨rfl, rfl⟩ | ⟨_, hq'⟩
    · exact idle
    · exact h.idle j q hq'
  case relief =>
    intro j q hq k hk
    rcases cases j q hq with ⟨rfl, rfl⟩ | ⟨_, hq'⟩
    · exact ⟨(relief k hk).1, hired k (relief k hk).2⟩
    · exact ⟨(h.relief j q hq' k hk).1, hired k (h.relief j q hq' k hk).2⟩
  case carried =>
    intro j q hq
    rcases cases j q hq with ⟨rfl, rfl⟩ | ⟨_, hq'⟩
    · exact carried
    · exact h.carried j q hq'
  case tickets => exact fun p u hu => ⟨hired _ (h.tickets p u hu).1, (h.tickets p u hu).2⟩

/-- A hired set's record is written with its key kept. -/
theorem putSet_key (h : s.Referenced) {i : SetSlot} {r q : SetRec} (found : s.set? i = some r)
    (key : q.key = r.key) (carried : s.CarriesOpen q) : (s.putSet i (some q)).Referenced := by
  refine h.sameSets (fun j => ?_) fun j p hp => ?_
  · by_cases e : j = i
    · subst e; simp [found, key]
    · rw [State.set?_putSet_ne _ _ e]
  · by_cases e : j = i
    · subst e; simp at hp; exact hp ▸ carried
    · rw [State.set?_putSet_ne _ _ e] at hp; exact h.carried j p hp

/-- A change of a hired set's record that keeps its key and its carried entries. -/
theorem updSet (h : s.Referenced) (i : SetSlot) {g : SetRec → SetRec}
    (keeps : ∀ r, (g r).key = r.key ∧ (g r).carried = r.carried := by exact fun _ => ⟨rfl, rfl⟩) :
    (s.updSet i g).Referenced := by
  unfold State.updSet
  cases found : s.set? i with
  | none =>
    refine h.beside ?_
    simp only [Option.map_none, State.putSet]
    exact Vector.ext fun k hk => by
      by_cases e : i.val = k
      · subst e; simpa [State.set?] using found.symm
      · simp [e]
  | some r =>
    exact h.putSet_key found (keeps r).1 fun p hp => h.carried i r found p ((keeps r).2 ▸ hp)

/-- A set's record is written with the flags of its entries. -/
theorem ofPutSet {i : SetSlot} {before after : SetRec} (h : (s.putSet i (some after)).Referenced) :
    (s.writeSet i before after).Referenced := by
  rw [State.writeSet_eq]
  exact h.beside

/-- A feeder's record is written: what it names exists. -/
theorem putFeeder (h : s.Referenced) {ch : Channel} {f : Feeder}
    (sides : ∀ d i, f.bound.get d = some i → (s.set? i).isSome = true)
    (payer : (s.account? f.account).isSome = true) : (s.putFeeder ch f).Referenced where
  units := h.units
  codes := h.codes
  house := h.house
  sides c d i hi := by
    by_cases e : c = ch
    · subst e; exact sides d i (by simpa [boundSet] using hi)
    · exact h.sides c d i (by simpa [boundSet, State.feeder_putFeeder_ne _ _ e] using hi)
  payers c := by
    by_cases e : c = ch
    · subst e; rw [State.feeder_putFeeder_self]; exact payer
    · rw [State.feeder_putFeeder_ne _ _ e]; exact h.payers c
  idle := h.idle
  relief := h.relief
  carried := h.carried
  tickets := h.tickets

/-- A position is written: a ticket it holds names a hired set and a registered supplier. -/
theorem putPosition (h : s.Referenced) {p : PositionNo} {r : Position}
    (ticket : ∀ u, r.ticket = some u →
      (s.set? u.set).isSome = true ∧ (s.supplier u.supplier).docket ≠ .unregistered) :
    (s.putPosition p r).Referenced where
  units := h.units
  codes := h.codes
  house := h.house
  sides := h.sides
  payers := h.payers
  idle := h.idle
  relief := h.relief
  carried := h.carried
  tickets q u hu := by
    by_cases e : q = p
    · subst e; exact ticket u (by simpa using hu)
    · rw [State.position_putPosition_ne _ _ e] at hu; exact h.tickets q u hu

/-- A position is written whose ticket names what its ticket named, if it holds one. -/
theorem putPosition_same (h : s.Referenced) {p : PositionNo} {r : Position}
    (ticket : ∀ u, r.ticket = some u →
      ∃ v, (s.position p).ticket = some v ∧ u.set = v.set ∧ u.supplier = v.supplier) :
    (s.putPosition p r).Referenced :=
  h.putPosition fun u hu => by
    obtain ⟨v, hv, set, supplier⟩ := ticket u hu
    rw [set, supplier]
    exact h.tickets p v hv

/-- A supplier record is written and registered. -/
theorem putSupplier (h : s.Referenced) {n : SupplierNo} {r : Supplier} (docket : r.docket ≠ .unregistered) :
    (s.putSupplier n r).Referenced :=
  h.ofSame
    { codes := fun _ => rfl
      keys := fun _ => rfl
      carried := h.carried
      bound := fun _ => rfl
      account := fun _ => rfl
      tickets := fun p u hu => ⟨u, hu, rfl, rfl⟩
      suppliers := fun m registered => by
        by_cases e : m = n
        · subst e; simpa using docket
        · rwa [State.supplier_putSupplier_ne _ _ e] }

/-- An account is opened under a code that no open account carries. -/
theorem openAccount (h : s.Referenced) {a : AccountSlot} {r : Account} (free : s.account? a = none)
    (code : ∀ b q, s.account? b = some q → q.code ≠ r.code) : (s.putAccount a (some r)).Referenced := by
  have stays (b : AccountSlot) (hb : (s.account? b).isSome = true) :
      ((s.putAccount a (some r)).account? b).isSome = true := by
    by_cases e : b = a
    · subst e; simp
    · rwa [State.account?_putAccount_ne _ _ e]
  have cases (b : AccountSlot) (q : Account) (hq : (s.putAccount a (some r)).account? b = some q) :
      (b = a ∧ q = r) ∨ s.account? b = some q := by
    by_cases e : b = a
    · subst e; simp at hq; exact .inl ⟨rfl, hq.symm⟩
    · rw [State.account?_putAccount_ne _ _ e] at hq; exact .inr hq
  constructor
  case units => exact h.units
  case codes =>
    intro b c q hq p hp e
    rcases cases b q hq with ⟨rfl, rfl⟩ | hq' <;> rcases cases c p hp with ⟨rfl, rfl⟩ | hp'
    · rfl
    · exact absurd e.symm (code c p hp')
    · exact absurd e (code b q hq')
    · exact h.codes b c q hq' p hp' e
  case house => exact stays 0 h.house
  case sides => exact h.sides
  case payers => exact fun ch => stays _ (h.payers ch)
  case idle => exact fun i q hq => stays _ (h.idle i q hq)
  case relief => exact h.relief
  case carried => exact fun i q hq p hp => stays _ (h.carried i q hq p hp)
  case tickets => exact h.tickets

/-! ## Energy carried, and the evaluation -/

end State.Referenced

/-- The account of an entry that joins a list is an entry's of the list or the one it joins under (R70). -/
theorem mem_addEntry {l : List (AccountSlot × Nat)} {a : AccountSlot} {e : Nat} {p : AccountSlot × Nat}
    (h : p ∈ addEntry l a e) : p.1 = a ∨ p ∈ l := by
  unfold addEntry at h
  split at h
  · obtain ⟨q, hq, rfl⟩ := List.mem_map.mp h
    split
    · exact .inl rfl
    · exact .inr hq
  · rcases List.mem_append.mp h with h | h
    · exact .inr h
    · exact .inl (by simp at h; simp [h])

theorem SetRec.carry_key (r : SetRec) (a : AccountSlot) (e : Nat) : (r.carry a e).key = r.key := by
  unfold SetRec.carry
  split <;> rfl

theorem SetRec.carryAll_key (r : SetRec) (moved : List (AccountSlot × Nat)) : (r.carryAll moved).key = r.key :=
  SetRec.carryAll_keeps (P := fun q => q.key = r.key) moved rfl fun q p _ h => (q.carry_key p.1 p.2).trans h

theorem State.CarriesOpen.carry {s : State} {r : SetRec} {a : AccountSlot} {e : Nat} (h : s.CarriesOpen r)
    (opened : (s.account? a).isSome = true) : s.CarriesOpen (r.carry a e) := by
  intro p hp
  unfold SetRec.carry at hp
  split at hp
  · rcases mem_addEntry hp with rfl | hp
    · exact opened
    · exact h p hp
  · exact h p hp

/-- The stages of an evaluation keep what the set names (R34 to R41). -/
theorem SetRec.evaluated_key (r : SetRec) (l : List (AccountSlot × Nat)) (c : Curve) (secs : Nat) :
    (r.evaluated l c secs).key = r.key := by
  have debited (q : SetRec) (burn : Nat) : (q.debited burn).withRuntime.key = q.key := rfl
  have rated (q : SetRec) (load : Nat) : ((q.rated c load).burnt secs).key = q.key := rfl
  exact (debited _ _).trans (rated _ _)

/-- An evaluation empties the carried list (R34). -/
theorem SetRec.evaluated_carried (r : SetRec) (l : List (AccountSlot × Nat)) (c : Curve) (secs : Nat) :
    (r.evaluated l c secs).carried = [] := by
  have debited (q : SetRec) (burn : Nat) : (q.debited burn).withRuntime.carried = q.carried := rfl
  have rated (q : SetRec) (load : Nat) : ((q.rated c load).burnt secs).carried = q.carried := rfl
  exact (debited _ _).trans (rated _ _)

namespace State.Referenced

variable {s t : State}

/-- Quiet work keeps keys and references: energy is carried under accounts that feeders name. -/
theorem quiet (h : s.Referenced) (q : QuietWork s t) : t.Referenced := by
  refine h.ofSame
    { codes := fun a => by simp [State.account?, q.accounts]
      keys := fun i => ?_
      carried := fun i r hr => ?_
      bound := q.bound
      account := q.account
      tickets := fun p u hu => ⟨u, by rw [State.position, ← q.positions]; exact hu, rfl, rfl⟩
      suppliers := fun n => by simp [State.supplier, q.suppliers] }
  · obtain ⟨moved, _, e⟩ := q.sets i
    rw [e, Option.map_map]
    exact congrFun (congrArg _ (funext fun r => r.carryAll_key moved)) _
  · obtain ⟨moved, sources, e⟩ := q.sets i
    rw [e] at hr
    obtain ⟨r', hr', rfl⟩ := Option.map_eq_some_iff.mp hr
    refine SetRec.carryAll_keeps moved (h.carried i r' hr') fun r p hp opened => opened.carry ?_
    obtain ⟨ch, rfl, _⟩ := sources p hp
    exact h.payers ch

/-- An evaluation keeps keys and references: it empties the carried list and keeps the set's key. -/
theorem evaluate (h : s.Referenced) (i : SetSlot) (secs : Nat) : (s.evaluate i secs).1.Referenced := by
  cases found : s.set? i with
  | none => rw [State.evaluate_none found]; exact h
  | some r =>
    have written := (h.quiet (QuietWork.collectFeeders s i secs)).putSet_key (i := i) (r := r)
      (q := r.evaluated (s.contributions i r) s.curves[r.curve] secs)
      (by rw [State.set?, State.collectFeeders_eq]; exact found) (r.evaluated_key _ _ _)
      (fun p hp => by rw [SetRec.evaluated_carried] at hp; cases hp)
    have frame := State.evaluate_frame found secs
    refine written.sameAccounts (fun a => (SameCodes.evaluate s i secs a).trans ?_) (by rw [frame]) (by rw [frame])
      (by rw [frame]) (by rw [frame])
    rw [State.collectFeeders_eq]
    rfl

end State.Referenced

end Sys2Proof.Machine
end

section
/-! Every row keeps the keys and the references (R11, R16, R21, R22, R55, R73, R126, R139, R140, R149, R152),
and so does every step. -/

namespace Sys2Proof.Machine

/-! ## Searching the tables -/

theorem mem_slots (i : SetSlot) : i ∈ slots := by revert i; decide

theorem mem_accountSlots (a : AccountSlot) : a ∈ accountSlots := List.mem_ofFn.mpr ⟨a, rfl⟩

/-- No hired set carries the unit number (R6, R12). -/
theorem State.slotOfUnit_eq_none {s : State} {unit : BitVec 32} :
    s.slotOfUnit unit = none ↔ ∀ j q, s.set? j = some q → q.unit ≠ unit := by
  simp only [State.slotOfUnit, List.find?_eq_none, mem_slots, forall_const]
  refine forall_congr' fun j => ?_
  cases s.set? j <;> simp

/-- No open account carries the code (R146, R150). -/
theorem State.slotOfCode_eq_none {s : State} {code : BitVec 32} :
    s.slotOfCode code = none ↔ ∀ b q, s.account? b = some q → q.code ≠ code := by
  simp only [State.slotOfCode, List.find?_eq_none, mem_accountSlots, forall_const]
  refine forall_congr' fun b => ?_
  cases s.account? b <;> simp

/-- A set table written slot by slot. -/
theorem State.set?_map (s : State) (f : Option SetRec → Option SetRec) (i : SetSlot) :
    ({ s with sets := s.sets.map f } : State).set? i = f (s.set? i) := by
  simp [State.set?]

/-- An account table written slot by slot. -/
theorem State.account?_map (s : State) (f : Option Account → Option Account) (a : AccountSlot) :
    ({ s with accounts := s.accounts.map f } : State).account? a = f (s.account? a) := by
  simp [State.account?]

/-! ## The millisecond -/

theorem QuietWork.foldl {α : Type} {f : State → α → State} (each : ∀ s a, QuietWork s (f s a)) (l : List α)
    (s : State) : QuietWork s (l.foldl f s) := by
  induction l generalizing s with
  | nil => exact .refl s
  | cons a l ih => exact (each s a).trans (ih _)

theorem QuietWork.tickFeeder (s : State) (ch : Channel) : QuietWork s (s.tickFeeder ch) :=
  .ite ((FeederWork.state s ch).trans (.rewatch _ ch 1)).quiet (.refl s)

/-- Beside the timers of the sets, a millisecond is quiet. -/
theorem QuietWork.tick (s : State) :
    QuietWork { s with sets := s.sets.map (Option.map SetRec.tick) } s.tick := by
  unfold State.tick
  refine trans ?_ (foldl tickFeeder channels _)
  exact .beside

theorem SetRec.tick_cases (r : SetRec) :
    (r.running = false ∧ r.tick = r) ∨ (r.running = true ∧ r.timer < 59999 ∧ r.tick = { r with timer := r.timer + 1 })
      ∨ (r.running = true ∧ 59999 ≤ r.timer ∧ r.tick = { r with expiring := true }) := by
  unfold SetRec.tick
  cases running : r.running
  · exact .inl ⟨rfl, rfl⟩
  · by_cases short : r.timer < 59999
    · exact .inr (.inl ⟨rfl, short, by simp [short]⟩)
    · exact .inr (.inr ⟨rfl, Nat.le_of_not_lt short, by simp [short]⟩)

namespace State.Referenced

variable {s t : State}

/-- Every hired set's record is changed with its key kept and no carried entry added. -/
theorem mapSets (h : s.Referenced) {g : SetRec → SetRec}
    (keeps : ∀ r, (g r).key = r.key ∧ ∀ p ∈ (g r).carried, p ∈ r.carried) :
    ({ s with sets := s.sets.map (Option.map g) } : State).Referenced := by
  refine h.sameSets (fun i => ?_) fun i r hr p hp => ?_
  · rw [State.set?_map, Option.map_map]
    exact congrFun (congrArg _ (funext fun r => (keeps r).1)) _
  · rw [State.set?_map] at hr
    obtain ⟨r', hr', rfl⟩ := Option.map_eq_some_iff.mp hr
    exact h.carried i r' hr' p ((keeps r').2 p hp)

theorem tick (h : s.Referenced) : s.tick.Referenced := by
  refine (h.mapSets fun r => ?_).quiet (QuietWork.tick s)
  rcases r.tick_cases with ⟨_, e⟩ | ⟨_, _, e⟩ | ⟨_, _, e⟩ <;> rw [e] <;> exact ⟨rfl, fun _ hp => hp⟩

theorem port (s : State) (r : Result) (o : Sdo) (h : s.Referenced) :
    ({ s with result := r, sdo := o } : State).Referenced := h.beside

/-- A served command keeps keys and references if its rule does. -/
theorem serve (h : s.Referenced) {body : Except Status Reply} (leads : Leads State.Referenced body)
    (next : Machine.serve s body = .next t) : t.Referenced := Leads.serve port h leads next

theorem raise (h : s.Referenced) (f : Flag) : (s.raise f).Referenced := h.quiet (FeederWork.raise s f).quiet

theorem raiseIf (h : s.Referenced) (c : Bool) (f : Flag) : (s.raiseIf c f).Referenced :=
  h.quiet (FeederWork.raiseIf s c f).quiet

theorem ofNext {u : State} (h : u.Referenced)
    (next : (Host.Outcome.next u : Host.Outcome State Fault Refusal) = .next t) : t.Referenced := by
  cases next
  exact h

/-! ## Sets -/

theorem hireSet (h : s.Referenced) {unit : BitVec 32} {rating : BitVec 16} {capacity : BitVec 32} {curve : Byte}
    {minHire : BitVec 16} {dayRate tank : BitVec 32}
    (next : execHireSet unit rating capacity curve minHire dayRate tank s = .next t) : t.Referenced := by
  refine h.serve (.bind fun _ _ => .bind fun _ _ => .bind fun c _ => .bind fun _ _ => .bind fun _ _ =>
    .bind fun _ _ => .bind fun _ fresh => ?_) next
  have fresh := State.slotOfUnit_eq_none.mp (Option.isNone_iff_eq_none.mp (require_eq_ok fresh))
  split
  · exact .error _
  · refine .ok ?_
    rw [State.raiseEntries_eq]
    refine (h.putSet (fun j q _ hq => fresh j q hq) ?_ ?_ ?_).beside
    · exact h.house
    · exact nofun
    · exact nofun

theorem reportRun (h : s.Referenced) {slot report : Byte} (next : execReportRun slot report s = .next t) :
    t.Referenced := by
  refine h.serve (.bind fun i _ => .bind fun _ _ => .bind fun r _ => .bind fun _ _ =>
    .ite (fun _ => .ok ?_) fun _ => .ok ?_) next
  · exact (h.updSet i).quiet (FeederWork.scan _).quiet
  · have partly : (s.partialEvaluation i (r.timer / 1000)).1.Referenced := by
      unfold State.partialEvaluation
      split
      · exact h
      · exact h.evaluate i _
    exact (partly.updSet i).quiet (FeederWork.scan _).quiet

theorem intervalExpiry (h : s.Referenced) {i : SetSlot} (next : execIntervalExpiry i s = .next t) :
    t.Referenced := by
  refine ofNext ?_ next
  split
  · exact h
  · split
    · exact ((h.evaluate i 60).updSet i).quiet (FeederWork.scan _).quiet
    · exact h

theorem amendSet (h : s.Referenced) {slot curve idle relief window : Byte} {reserve : BitVec 32}
    {loadLimit : BitVec 16} (next : execAmendSet slot curve reserve loadLimit idle relief window s = .next t) :
    t.Referenced := by
  refine h.serve (.bind fun i _ => .bind fun r found => .bind fun c _ => .bind fun a _ => .bind fun x opened =>
    .bind fun rel _ => .bind fun _ other => .bind fun _ hired => .ok ?_) next
  have found := hiredSet_eq_ok found
  have opened := openSlot_eq_ok opened
  have other : rel ≠ some i := by simpa using require_eq_ok other
  have hired := require_eq_ok hired
  refine ofPutSet (h.putSet (fun j q e hq same => e (h.units j i q hq r found same)) ?_ (fun j hj => ?_) ?_)
  · exact Option.isSome_iff_exists.mpr ⟨x, opened⟩
  · have hj : rel = some j := hj
    rw [hj] at other hired
    exact ⟨fun e => other (congrArg some e), hired⟩
  · exact h.carried i r found

theorem dipSet (h : s.Referenced) {slot : Byte} {reading : BitVec 32}
    (next : execDipSet slot reading s = .next t) : t.Referenced := by
  refine h.serve (.bind fun i _ => .bind fun r found => .ok ?_) next
  have found := hiredSet_eq_ok found
  exact ofPutSet (h.putSet_key found rfl (h.carried i r found))

/-- The fuel credited at a hang-up keeps what its set names (R132). -/
theorem creditTank (h : s.Referenced) (i : SetSlot) (inc : Nat) : (s.creditTank i inc).Referenced := by
  unfold State.creditTank
  split
  · exact h
  · rename_i r found
    split
    · exact h
    · refine (ofPutSet (before := r) (after := r.creditFuel inc) ?_).raiseIf _ _
      exact h.putSet_key found rfl (h.carried i r found)

end State.Referenced

/-- A set's relief field is taken out exactly if it names the slot that leaves hire (R22). -/
theorem SetRec.withoutRelief_eq (r : SetRec) (i : SetSlot) :
    r.withoutRelief i = { r with relief := if r.relief = some i then none else r.relief } := by
  unfold SetRec.withoutRelief
  split <;> rfl

/-- No feeder side is bound to the set, on any channel (R21). -/
theorem State.setBound_eq_false {s : State} {i : SetSlot} :
    s.setBound i = false ↔ ∀ ch d, (s.feeder ch).bound.get d ≠ some i := by
  simp only [State.setBound, List.any_eq_false, mem_channels, forall_const, Bool.or_eq_true, beq_iff_eq, not_or]
  refine forall_congr' fun ch => ⟨fun ⟨a, b⟩ d => ?_, fun h => ⟨h .A, h .B⟩⟩
  cases d
  · exact a
  · exact b

theorem mem_positionNos (p : PositionNo) : p ∈ positionNos := by revert p; decide

/-- No ticket names the set (R21). -/
theorem State.setTicketed_eq_false {s : State} {i : SetSlot} :
    s.setTicketed i = false ↔ ∀ p u, (s.position p).ticket = some u → u.set ≠ i := by
  simp only [State.setTicketed, List.any_eq_false, mem_positionNos, forall_const, beq_iff_eq]
  refine forall_congr' fun p => ?_
  cases (s.position p).ticket <;> simp

/-- The set table after a slot is freed: its own record is gone, and no relief field names it (R22). -/
theorem State.set?_freed (s : State) (i j : SetSlot) :
    ({ s with sets := (s.sets.map (Option.map (·.withoutRelief i))).set i none } : State).set? j =
      if j = i then none else (s.set? j).map (·.withoutRelief i) := by
  split
  · rename_i e; subst e; simp [State.set?]
  · rename_i e
    have : i.val ≠ j.val := fun v => e (Fin.ext v.symm)
    simp [State.set?, this]

namespace State.Referenced

variable {s t : State}

/-- A slot that no feeder side and no ticket names is freed (R21, R22). -/
theorem freeSlot (h : s.Referenced) {i : SetSlot} (unbound : ∀ ch d, (s.feeder ch).bound.get d ≠ some i)
    (unticketed : ∀ p u, (s.position p).ticket = some u → u.set ≠ i) :
    ({ s with sets := (s.sets.map (Option.map (·.withoutRelief i))).set i none } : State).Referenced := by
  have found {j : SetSlot} {q : SetRec}
      (hq : ({ s with sets := (s.sets.map (Option.map (·.withoutRelief i))).set i none } : State).set? j = some q) :
      j ≠ i ∧ ∃ r, s.set? j = some r ∧ q = r.withoutRelief i := by
    rw [State.set?_freed] at hq
    split at hq
    · cases hq
    · obtain ⟨r, hr, rfl⟩ := Option.map_eq_some_iff.mp hq
      exact ⟨‹_›, r, hr, rfl⟩
  have stays {j : SetSlot} (other : j ≠ i) (hj : (s.set? j).isSome = true) :
      (({ s with sets := (s.sets.map (Option.map (·.withoutRelief i))).set i none } : State).set? j).isSome
        = true := by
    rw [State.set?_freed, if_neg other]
    simpa using hj
  constructor
  case units =>
    intro j k q hq p hp e
    obtain ⟨_, q', hq', rfl⟩ := found hq
    obtain ⟨_, p', hp', rfl⟩ := found hp
    rw [SetRec.withoutRelief_eq, SetRec.withoutRelief_eq] at e
    exact h.units j k q' hq' p' hp' e
  case codes => exact h.codes
  case house => exact h.house
  case sides => exact fun ch d j hj => stays (fun e => unbound ch d (e ▸ hj)) (h.sides ch d j hj)
  case payers => exact h.payers
  case idle =>
    intro j q hq
    obtain ⟨_, q', hq', rfl⟩ := found hq
    rw [SetRec.withoutRelief_eq]
    exact h.idle j q' hq'
  case relief =>
    intro j q hq k hk
    obtain ⟨_, q', hq', rfl⟩ := found hq
    rw [SetRec.withoutRelief_eq] at hk
    dsimp only at hk
    split at hk
    · cases hk
    · rename_i differs
      obtain ⟨other, hired⟩ := h.relief j q' hq' k hk
      exact ⟨other, stays (fun e => differs (e ▸ hk)) hired⟩
  case carried =>
    intro j q hq
    obtain ⟨_, q', hq', rfl⟩ := found hq
    rw [SetRec.withoutRelief_eq]
    exact h.carried j q' hq'
  case tickets =>
    exact fun p u hu => ⟨stays (unticketed p u hu) (h.tickets p u hu).1, (h.tickets p u hu).2⟩

theorem offHireSet (h : s.Referenced) {slot : Byte} (next : execOffHireSet slot s = .next t) : t.Referenced := by
  refine h.serve (.bind fun i _ => .bind fun r _ => .bind fun _ _ => .bind fun _ _ => .bind fun _ unnamed =>
    .ok ?_) next
  have unnamed := require_eq_ok unnamed
  simp only [Bool.and_eq_true, Bool.not_eq_true'] at unnamed
  exact h.freeSlot (State.setBound_eq_false.mp unnamed.1) (State.setTicketed_eq_false.mp unnamed.2)

/-! ## Feeders -/

theorem bindSide (h : s.Referenced) {channel side slot : Byte}
    (next : execBindSide channel side slot s = .next t) : t.Referenced := by
  refine h.serve (.bind fun ch _ => .bind fun d _ => .bind fun i _ => .bind fun _ _ => .bind fun _ hired =>
    .bind fun _ _ => .bind fun _ _ => .bind fun _ _ => .ok ?_) next
  have hired := require_eq_ok hired
  refine h.putFeeder (fun e j hj => ?_) (h.payers ch)
  by_cases same : e = d
  · subst same
    rw [PerSide.get_set_self] at hj
    rw [hj] at hired
    exact hired
  · have other : e = d.other := by cases e <;> cases d <;> simp_all [Side.other]
    rw [other, PerSide.get_set_other] at hj
    exact h.sides ch d.other j hj

theorem assignFeederAccount (h : s.Referenced) {channel account : Byte}
    (next : execAssignFeederAccount channel account s = .next t) : t.Referenced := by
  refine h.serve (.bind fun ch _ => .bind fun a _ => .bind fun _ _ => .bind fun x opened => .ok ?_) next
  have flushed := h.quiet (QuietWork.flush s ch)
  refine flushed.putFeeder (fun d => flushed.sides ch d) ?_
  have opened := openSlot_eq_ok opened
  simp only [State.account?, (QuietWork.flush s ch).accounts] at opened ⊢
  rw [opened]
  rfl

theorem energyPulse (h : s.Referenced) {ch : Channel} (next : execEnergyPulse ch s = .next t) :
    t.Referenced := by
  refine ofNext ?_ next
  split
  · have counted : (s.putFeeder ch { s.feeder ch with
        interval := satAdd max24 (s.feeder ch).interval (s.feeder ch).weight
        lifetime := satAdd max32 (s.feeder ch).lifetime (s.feeder ch).weight }).Referenced :=
      h.putFeeder (fun d => h.sides ch d) (h.payers ch)
    have frame := State.billEnergy_eq (s.putFeeder ch { s.feeder ch with
        interval := satAdd max24 (s.feeder ch).interval (s.feeder ch).weight
        lifetime := satAdd max32 (s.feeder ch).lifetime (s.feeder ch).weight }) (s.feeder ch).account
        (s.feeder ch).weight
    exact counted.sameAccounts (SameCodes.billEnergy _ _ _) (by rw [frame]) (by rw [frame]) (by rw [frame])
      (by rw [frame])
  · exact h

/-! ## Curves -/

theorem loadCurvePoint (h : s.Referenced) {value : BitVec 32} (next : execLoadCurvePoint value s = .next t) :
    t.Referenced := by
  refine h.serve ?_ next
  split
  · exact .error _
  · refine .ok ?_
    split <;> exact h.beside

/-! ## Suppliers and positions -/

theorem openTicket (h : s.Referenced) {position slot supplier : Byte} {ordered : BitVec 32}
    (next : execOpenTicket position slot supplier ordered s = .next t) : t.Referenced := by
  refine h.serve (.bind fun p _ => .bind fun i _ => .bind fun n _ => .bind fun _ _ => .bind fun r found =>
    .bind fun _ registered => .bind fun _ _ => .ok ?_) next
  have registered : (s.supplier n).docket ≠ .unregistered := by simpa using require_eq_ok registered
  refine h.putPosition fun u hu => ?_
  cases hu
  exact ⟨Option.isSome_iff_exists.mpr ⟨r, hiredSet_eq_ok found⟩, registered⟩

theorem setPermitMode (h : s.Referenced) {position mode : Byte}
    (next : execSetPermitMode position mode s = .next t) : t.Referenced := by
  refine h.serve (.bind fun p _ => .bind fun m _ => .ite (fun _ => .ok h) fun _ => .ok ?_) next
  exact h.putPosition_same fun u hu => ⟨u, hu, rfl, rfl⟩

theorem closeTicket (h : s.Referenced) {position : Byte} {docket : BitVec 24}
    (next : execCloseTicket position docket s = .next t) : t.Referenced := by
  refine h.serve (.bind fun p _ => .bind fun _ _ => ?_) next
  split
  · exact .ok h
  · refine .ite (fun _ => .ok h) fun _ => .ite (fun _ => .ok h) fun _ => .ite (fun _ => .ok ?_) fun _ => .ok h
    refine (h.putSupplier ?_).putPosition_same fun u hu => by cases hu
    unfold Supplier.closedTicket Docket.advance
    dsimp only
    split <;> nofun

theorem cancelTicket (h : s.Referenced) {position : Byte} (next : execCancelTicket position s = .next t) :
    t.Referenced := by
  refine h.serve (.bind fun p _ => ?_) next
  split
  · exact .error _
  · refine .bind fun _ _ => .ok (h.putPosition_same fun u hu => ?_)
    cases hu

theorem registerSupplier (h : s.Referenced) {supplier : Byte} {docket : BitVec 24}
    (next : execRegisterSupplier supplier docket s = .next t) : t.Referenced := by
  refine h.serve (.bind fun _ _ => .bind fun _ _ => .bind fun _ _ => .ok ?_) next
  exact h.putSupplier nofun

theorem fuelPulse (h : s.Referenced) {p : PositionNo} (next : execFuelPulse p s = .next t) : t.Referenced := by
  have stray : ((s.putPosition p { s.position p with
      stray := satAdd max24 (s.position p).stray s.fuelWeight }).raise .strayFuel).Referenced := by
    refine raise (h.putPosition_same fun u hu => ?_) _
    exact ⟨u, hu, rfl, rfl⟩
  refine ofNext ?_ next
  dsimp only
  split
  · exact stray
  · rename_i v held
    split
    · refine ((h.putPosition_same fun u hu => ?_).raiseIf _ _).raiseIf _ _
      cases hu
      exact ⟨v, held, rfl, rfl⟩
    · exact stray

theorem nozzleLift (h : s.Referenced) {p : PositionNo} (next : execNozzleLift p s = .next t) :
    t.Referenced := by
  have moved : (s.setNozzle p true).Referenced := h.beside
  refine ofNext ?_ next
  split
  · exact h
  · dsimp only
    split
    · exact moved
    · rename_i v held
      split
      · exact moved
      · refine moved.putPosition_same fun u hu => ?_
        cases hu
        exact ⟨v, held, rfl, rfl⟩

theorem hangUp (h : s.Referenced) {p : PositionNo} (next : execHangUp p s = .next t) : t.Referenced := by
  have moved : (s.setNozzle p false).Referenced := h.beside
  refine ofNext ?_ next
  split
  · exact h
  · dsimp only
    split
    · exact moved
    · rename_i v held
      split
      · refine (State.Referenced.creditTank (moved.putPosition_same fun u hu => ?_) _ _).raise _
        cases hu
        exact ⟨v, held, rfl, rfl⟩
      · exact moved

/-! ## Accounts -/

theorem openAccountRow (h : s.Referenced) {code : BitVec 32} {label : List Byte}
    (next : execOpenAccount code label s = .next t) : t.Referenced := by
  refine h.serve (.bind fun _ fresh => ?_) next
  have fresh := State.slotOfCode_eq_none.mp (Option.isNone_iff_eq_none.mp (require_eq_ok fresh))
  split
  · exact .error _
  · rename_i a free
    have free := List.find?_some free
    exact .ok (h.openAccount (Option.isNone_iff_eq_none.mp free) fresh)

/-- An open account's record is written with its code kept. -/
theorem putAccount_code (h : s.Referenced) {a : AccountSlot} {r x : Account} (opened : openSlot s a = .ok x)
    (code : r.code = x.code) : (s.putAccount a (some r)).Referenced :=
  h.sameAccounts (SameCodes.putAccount (openSlot_eq_ok opened) code)

theorem settleAccount (h : s.Referenced) {slot : Byte} (next : execSettleAccount slot s = .next t) :
    t.Referenced := by
  refine h.serve (.bind fun _ _ => .bind fun _ opened => .bind fun _ _ => .bind fun _ _ => .bind fun _ _ =>
    .ok ?_) next
  exact h.putAccount_code opened rfl

theorem releaseStatement (h : s.Referenced) {slot : Byte} (next : execReleaseStatement slot s = .next t) :
    t.Referenced := by
  refine h.serve (.bind fun _ _ => .bind fun x opened => ?_) next
  split
  · exact .error _
  · exact .ok (h.putAccount_code opened rfl)

theorem placeHold (h : s.Referenced) {slot : Byte} (next : execPlaceHold slot s = .next t) : t.Referenced := by
  refine h.serve (.bind fun _ _ => .bind fun _ opened => .ok ?_) next
  exact h.putAccount_code opened rfl

theorem releaseAllHolds (h : s.Referenced) (next : execReleaseAllHolds s = .next t) : t.Referenced := by
  refine h.serve (.ok (h.sameAccounts fun a => ?_)) next
  rw [State.account?_map, Option.map_map]
  rfl

end State.Referenced

/-- No feeder names the account (R151). -/
theorem State.feedersNaming_eq_zero {s : State} {a : AccountSlot} (h : s.feedersNaming a = 0) (ch : Channel) :
    (s.feeder ch).account ≠ a := by
  have none_names := List.countP_eq_zero.mp h (s.feeder ch) (by simp [State.feeder])
  simpa using none_names

/-- No hired set names the account as its idle account (R151). -/
theorem State.setsNaming_eq_zero {s : State} {a : AccountSlot} (h : s.setsNaming a = 0) {i : SetSlot} {r : SetRec}
    (found : s.set? i = some r) : r.idle ≠ a := by
  have member : some r ∈ s.sets.toList := by
    rw [← found]
    simp [State.set?]
  simpa using List.countP_eq_zero.mp h (some r) member

namespace State.Referenced

variable {s t : State}

/-- An account that no feeder, no idle account and no carried entry names is retired; the house account never
is (R145, R152). -/
theorem closeAccount (h : s.Referenced) {a : AccountSlot} (house : a ≠ 0)
    (payers : ∀ ch, (s.feeder ch).account ≠ a) (idle : ∀ i r, s.set? i = some r → r.idle ≠ a)
    (carried : ∀ i r, s.set? i = some r → ∀ p ∈ r.carried, p.1 ≠ a) : (s.putAccount a none).Referenced := by
  have stays {b : AccountSlot} (other : b ≠ a) (hb : (s.account? b).isSome = true) :
      ((s.putAccount a none).account? b).isSome = true := by rwa [State.account?_putAccount_ne _ _ other]
  have found {b : AccountSlot} {q : Account} (hq : (s.putAccount a none).account? b = some q) :
      s.account? b = some q := by
    by_cases e : b = a
    · subst e; simp at hq
    · rwa [State.account?_putAccount_ne _ _ e] at hq
  constructor
  case units => exact h.units
  case codes => exact fun b c q hq p hp => h.codes b c q (found hq) p (found hp)
  case house => exact stays house.symm h.house
  case sides => exact h.sides
  case payers => exact fun ch => stays (payers ch) (h.payers ch)
  case idle => exact fun i r hr => stays (idle i r hr) (h.idle i r hr)
  case relief => exact h.relief
  case carried => exact fun i r hr p hp => stays (carried i r hr p hp) (h.carried i r hr p hp)
  case tickets => exact h.tickets

theorem retireAccount (h : s.Referenced) {slot : Byte} (next : execRetireAccount slot s = .next t) :
    t.Referenced := by
  refine h.serve (.bind fun a _ => .bind fun _ house => .bind fun _ _ => .bind fun _ _ => .bind fun _ _ =>
    .bind fun _ _ => .bind fun _ unnamed => .ok ?_) next
  have house : a ≠ 0 := fun e => by subst e; cases require_eq_ok house
  have unnamed := require_eq_ok unnamed
  simp only [Bool.and_eq_true, beq_iff_eq] at unnamed
  obtain ⟨payers, idle⟩ := unnamed
  have dropped : ({ s with sets := s.sets.map (Option.map (·.dropAccount a)) } : State).Referenced :=
    h.mapSets fun r => ⟨rfl, fun p hp => (List.mem_filter.mp hp).1⟩
  refine dropped.closeAccount house (State.feedersNaming_eq_zero payers) (fun i r hr => ?_) fun i r hr p hp => ?_
  all_goals
    rw [State.set?_map] at hr
    obtain ⟨r', hr', rfl⟩ := Option.map_eq_some_iff.mp hr
  · exact State.setsNaming_eq_zero (r := r') idle hr'
  · simpa using (List.mem_filter.mp hp).2

/-! ## Cold start -/

/-- After cold start the house account is the one record (R179). -/
theorem cold (x : Straps) (pins : Pins) : (State.cold x pins).Referenced := by
  have free (i : SetSlot) : (State.cold x pins).set? i = none := by simp [State.set?, State.cold]
  have feeder (ch : Channel) : (State.cold x pins).feeder ch = Feeder.cold := by simp [State.feeder, State.cold]
  have position (p : PositionNo) : ((State.cold x pins).position p).ticket = none := by
    simp [State.position, State.cold]
  have house : ((State.cold x pins).account? 0).isSome = true := rfl
  have closed (a : AccountSlot) (other : a ≠ 0) : (State.cold x pins).account? a = none := by
    have : 0 ≠ a.val := fun e => other (Fin.ext e.symm)
    simp [State.account?, State.cold, this]
  have only (a : AccountSlot) (r : Account) (hr : (State.cold x pins).account? a = some r) : a = 0 := by
    by_contra other
    rw [closed a other] at hr
    cases hr
  constructor
  case units => exact fun i j r hr => by rw [free i] at hr; cases hr
  case codes => exact fun a b r hr q hq _ => (only a r hr).trans (only b q hq).symm
  case house => exact house
  case sides =>
    intro ch d i hi
    rw [State.boundSet, feeder] at hi
    cases d <;> cases hi
  case payers => exact fun ch => by rw [feeder]; exact house
  case idle => exact fun i r hr => by rw [free i] at hr; cases hr
  case relief => exact fun i r hr => by rw [free i] at hr; cases hr
  case carried => exact fun i r hr => by rw [free i] at hr; cases hr
  case tickets => exact fun p u hu => by rw [position p] at hu; cases hu

/-- Every row that is not quiet, but the raw frame. -/
theorem row (h : s.Referenced) : ∀ c : Instr, quietRow c = false → (∀ f, c ≠ .unknownCommand f) →
    exec c s = .next t → t.Referenced
  | .hireSet _ _ _ _ _ _ _, _, _, next => h.hireSet next
  | .reportRun _ _, _, _, next => h.reportRun next
  | .amendSet _ _ _ _ _ _ _, _, _, next => h.amendSet next
  | .dipSet _ _, _, _, next => h.dipSet next
  | .offHireSet _, _, _, next => h.offHireSet next
  | .beginCurve _, _, _, next => h.serve (.bind fun _ _ => .ok h.beside) next
  | .loadCurvePoint _, _, _, next => h.loadCurvePoint next
  | .bindSide _ _ _, _, _, next => h.bindSide next
  | .assignFeederAccount _ _, _, _, next => h.assignFeederAccount next
  | .registerSupplier _ _, _, _, next => h.registerSupplier next
  | .openTicket _ _ _ _, _, _, next => h.openTicket next
  | .setPermitMode _ _, _, _, next => h.setPermitMode next
  | .closeTicket _ _, _, _, next => h.closeTicket next
  | .cancelTicket _, _, _, next => h.cancelTicket next
  | .openAccount _ _, _, _, next => h.openAccountRow next
  | .settleAccount _, _, _, next => h.settleAccount next
  | .releaseStatement _, _, _, next => h.releaseStatement next
  | .retireAccount _, _, _, next => h.retireAccount next
  | .placeHold _, _, _, next => h.placeHold next
  | .releaseAllHolds, _, _, next => h.releaseAllHolds next
  | .energyPulse _, _, _, next => h.energyPulse next
  | .intervalExpiry _, _, _, next => h.intervalExpiry next
  | .fuelPulse _, _, _, next => h.fuelPulse next
  | .nozzleLift _, _, _, next => h.nozzleLift next
  | .hangUp _, _, _, next => h.hangUp next
  | .coldStart x pins, _, _, next => ofNext (cold x pins).beside next
  | .unknownCommand f, _, raw, _ => absurd rfl (raw f)

theorem stepLeads : StepLeads State.Referenced State.Referenced where
  waits _ _ _ _ h := h.beside
  port s r o h := port s r o h
  rows c s t raw h next := by
    cases q : quietRow c with
    | true => exact h.quiet (exec_quiet s t c q next)
    | false => exact h.row c q raw next
  tick _ h := h.tick

end State.Referenced

/-- Settles O57: every row and the millisecond keep the keys and references, and with them every step. -/
theorem everyStepKeepsReferences : Obligations.EveryStepKeepsReferences :=
  fun _ _ h next => State.Referenced.stepLeads.step h next

end Sys2Proof.Machine
end

section
/-! The range of one set's record (R6 to R10, R19, R34 to R41, R68, R69): each operation on a record keeps it. -/

namespace Sys2Proof.Machine

/-! ## Entries of carried energy (R34, R70) -/

/-- Energy joins under an account that has an entry, or the account is appended. -/
theorem addEntry_keys (l : List (AccountSlot × Nat)) (a : AccountSlot) (e : Nat) :
    (addEntry l a e).map (·.1) = if a ∈ l.map (·.1) then l.map (·.1) else l.map (·.1) ++ [a] := by
  have listed : l.any (fun p => p.1 == a) = true ↔ a ∈ l.map (·.1) := by simp
  unfold addEntry
  by_cases h : a ∈ l.map (·.1)
  · rw [if_pos h, if_pos (listed.mpr h), List.map_map]
    refine List.map_congr_left fun p _ => ?_
    by_cases same : p.1 = a
    · simp [same]
    · simp [same]
  · rw [if_neg h, if_neg (mt listed.mp h)]
    simp

theorem addEntry_nodup {l : List (AccountSlot × Nat)} (h : (l.map (·.1)).Nodup) (a : AccountSlot) (e : Nat) :
    ((addEntry l a e).map (·.1)).Nodup := by
  rw [addEntry_keys]
  split
  · exact h
  · exact List.nodup_append.mpr ⟨h, List.nodup_singleton a, fun b hb c hc => by
      rw [List.mem_singleton.mp hc]
      rintro rfl
      contradiction⟩

theorem satAdd_le (cap a x : Nat) : satAdd cap a x ≤ cap := Nat.min_le_left _ _

theorem satAdd_pos {cap x : Nat} (hcap : 1 ≤ cap) (a : Nat) (hx : 1 ≤ x) : 1 ≤ satAdd cap a x := by
  unfold satAdd
  omega

/-- An entry's amount in range: something, and no more than the total holds (R68). -/
def Carried (p : AccountSlot × Nat) : Prop := 1 ≤ p.2 ∧ p.2 ≤ 4294967295

theorem addEntry_amounts {l : List (AccountSlot × Nat)} (h : ∀ p ∈ l, Carried p) {a : AccountSlot} {e : Nat}
    (amount : Carried (a, e)) : ∀ p ∈ addEntry l a e, Carried p := by
  intro p hp
  unfold addEntry at hp
  split at hp
  · obtain ⟨q, hq, rfl⟩ := List.mem_map.mp hp
    split
    · exact ⟨satAdd_pos (by decide) _ amount.1, satAdd_le _ _ _⟩
    · exact h q hq
  · rcases List.mem_append.mp hp with hp | hp
    · exact h p hp
    · rw [List.mem_singleton.mp hp]
      exact amount

/-! ## Curves (R24, R37) -/

/-- A curve's points never decrease and stay within 250,000 mL per hour. -/
structure Curve.InRange (c : Curve) : Prop where
  rising : ∀ k : Fin 10, c.points[k.val] ≤ c.points[k.val + 1]
  highest : c.points[10] ≤ 250000

namespace Curve.InRange

variable {c : Curve}

theorem point_le (h : c.InRange) (n : Nat) : ∀ (k : Nat) (hk : k + n = 10), c.points[k] ≤ 250000 := by
  induction n with
  | zero => intro k hk; obtain rfl : k = 10 := hk; exact h.highest
  | succ n ih => exact fun k hk => (h.rising ⟨k, by omega⟩).trans (ih (k + 1) (by omega))

/-- A figure between two points, by hundredths of the way. -/
theorem between_le {lo hi x : Nat} (rising : lo ≤ hi) (part : x ≤ 100) : lo + (hi - lo) * x / 100 ≤ hi := by
  have : (hi - lo) * x ≤ (hi - lo) * 100 := Nat.mul_le_mul_left _ part
  omega

/-- The rate of a curve in range is in range at every load (R37). -/
theorem rateAt_le (h : c.InRange) (load : Nat) : c.rateAt load ≤ 250000 := by
  have part : min load 1000 - 100 * min (min load 1000 / 100) 9 ≤ 100 := by omega
  have step := between_le (h.rising ⟨min (min load 1000 / 100) 9, by omega⟩) part
  exact step.trans (h.point_le (9 - min (min load 1000 / 100) 9) _ (by dsimp only; omega))

end Curve.InRange

/-! ## Operations on a record -/

/-- What an evaluation makes of a set's record (R34 to R41). -/
theorem SetRec.evaluated_eq (r : SetRec) (l : List (AccountSlot × Nat)) (c : Curve) (secs : Nat) :
    r.evaluated l c secs =
      let load := loadOf (collectedOf l) secs r.rating
      let rate := if c.complete then c.rateAt load else 0
      let burn := (r.remainder + rate * secs) / 3600
      { r with
        carried := [], overflow := 0, load := min load 9999, rate := rate
        remainder := (r.remainder + rate * secs) % 3600
        runSeconds := satAdd max32 r.runSeconds secs, burned := satAdd max32 r.burned burn
        tank := r.tank - burn, dryCount := satAdd max16 r.dryCount (if r.tank - burn = 0 then 1 else 0)
        runtime := runtimeOf (r.tank - burn) rate
        conds := ⟨decide (r.tank - burn ≤ r.reserve), decide (r.tank - burn = 0), decide (r.loadLimit < load),
          !c.complete⟩ } := by
  simp only [SetRec.evaluated, SetRec.burnStages, SetRec.evaluatedBurn, SetRec.loaded, SetRec.rated, SetRec.burnt,
    SetRec.burnOf, SetRec.burnUnits, SetRec.debited, SetRec.withFuelConds, SetRec.withOverloadCond,
    SetRec.withRuntime]
  rfl

namespace SetRec.InRange

variable {r : SetRec}

/-- Energy carried to a set in range (R70). -/
theorem carry (h : r.InRange) {a : AccountSlot} {e : Nat} (amount : Carried (a, e)) : (r.carry a e).InRange := by
  unfold SetRec.carry
  split
  · rename_i room
    refine { h with
      entries := ?_, oneEntry := addEntry_nodup h.oneEntry a e, amounts := addEntry_amounts h.amounts amount }
    have short : (addEntry r.carried a e).length ≤ 4 := by
      rw [← List.length_map (f := (·.1)), addEntry_keys]
      split
      · simpa using h.entries
      · rename_i unlisted
        have absent : r.carried.any (fun p => p.1 == a) = false := by
          rw [List.any_eq_false]
          exact fun p hp e => unlisted (List.mem_map.mpr ⟨p, hp, by simpa using e⟩)
        rw [absent, Bool.false_or, decide_eq_true_iff] at room
        simpa using room
    exact short
  · exact { h with overflow := satAdd_le _ _ _ }

/-- A set as hired (R7, R9, R10, R11). -/
theorem hired {unit : BitVec 32} {rating capacity : Nat} {curve : CurveNo}
    {minHire dayRate hireStart tank : Nat} (rated : 10 ≤ rating ∧ rating ≤ 2000)
    (holds : 50000 ≤ capacity ∧ capacity ≤ 4000000) :
    (SetRec.hired unit rating capacity curve minHire dayRate hireStart tank).InRange where
  rating := rated
  capacity := holds
  reserve := Nat.div_le_self capacity 10
  loadLimit := ⟨(by decide : 500 ≤ 1000), (by decide : 1000 ≤ 1100)⟩
  window := ⟨(by decide : 2 ≤ 30), (by decide : 30 ≤ 240)⟩
  timer := Nat.zero_le _
  stopped _ := ⟨rfl, rfl⟩
  tank := Nat.min_le_right _ _
  remainder := (by decide : 0 < 3600)
  rate := Nat.zero_le _
  load := Nat.zero_le _
  runtime := rfl
  inReserve := decide_eq_true_iff
  dry := decide_eq_true_iff
  overloaded := (by decide : false = true ↔ 1000 < 0)
  entries := Nat.zero_le _
  oneEntry := List.nodup_nil
  amounts := nofun
  overflow := Nat.zero_le _
  runSeconds := Nat.zero_le _
  burned := Nat.zero_le _
  credited := Nat.zero_le _
  overfill := Nat.zero_le _
  dryCount := Nat.zero_le _

/-- A set starts, stops, or its interval timer moves (R9, R14, R15, R31). -/
theorem timed (h : r.InRange) {running expiring : Bool} {timer : Nat} (short : timer ≤ 59999)
    (stopped : running = false → timer = 0 ∧ expiring = false) :
    ({ r with running := running, timer := timer, expiring := expiring } : SetRec).InRange :=
  { h with timer := short, stopped := stopped }

theorem tick (h : r.InRange) : r.tick.InRange := by
  rcases r.tick_cases with ⟨_, e⟩ | ⟨running, short, e⟩ | ⟨running, _, e⟩ <;> rw [e]
  · exact h
  · exact h.timed (running := r.running) (expiring := r.expiring) short fun stopped => by simp [stopped] at running
  · exact h.timed (running := r.running) h.timer fun stopped => by simp [stopped] at running

/-- The amendable fields are written with reserve, limit and window clamped (R16, R17). -/
theorem amended (h : r.InRange) (curve : CurveNo) (reserve loadLimit : Nat) (idle : AccountSlot)
    (relief : Option SetSlot) (window : Nat) :
    (r.amended curve reserve loadLimit idle relief window).InRange where
  rating := h.rating
  capacity := h.capacity
  reserve := Nat.min_le_right _ _
  loadLimit := by
    simp only [SetRec.amended, SetRec.withOverloadCond, SetRec.withReserveCond,
      clampTo_eq (show 500 ≤ 1100 by decide)]
    omega
  window := by
    simp only [SetRec.amended, SetRec.withOverloadCond, SetRec.withReserveCond,
      clampTo_eq (show 2 ≤ 240 by decide)]
    omega
  timer := h.timer
  stopped := h.stopped
  tank := h.tank
  remainder := h.remainder
  rate := h.rate
  load := h.load
  runtime := h.runtime
  inReserve := decide_eq_true_iff
  dry := h.dry
  overloaded := decide_eq_true_iff
  entries := h.entries
  oneEntry := h.oneEntry
  amounts := h.amounts
  overflow := h.overflow
  runSeconds := h.runSeconds
  burned := h.burned
  credited := h.credited
  overfill := h.overfill
  dryCount := h.dryCount

/-- The tank estimate is written within the capacity, with the runtime, RESERVE and DRY that follow it
(R8, R18, R132). -/
theorem fuelled (h : r.InRange) {tank credited overfill : Nat} (fits : tank ≤ r.capacity)
    (total : credited ≤ 4294967295) (spilt : overfill ≤ 4294967295) :
    ({ r with tank := tank, credited := credited, overfill := overfill } :
      SetRec).withRuntime.withFuelConds.InRange :=
  { h with
    tank := fits
    credited := total
    overfill := spilt
    runtime := rfl
    inReserve := decide_eq_true_iff
    dry := decide_eq_true_iff }

theorem dipped (h : r.InRange) (reading : Nat) : (r.dipped reading).InRange :=
  h.fuelled (Nat.min_le_right _ _) h.credited h.overfill

theorem creditFuel (h : r.InRange) (inc : Nat) : (r.creditFuel inc).InRange :=
  h.fuelled (Nat.min_le_right _ _) (satAdd_le _ _ _) (satAdd_le _ _ _)

/-- The stages of an evaluation from a curve in range (R34 to R41). -/
theorem evaluated (h : r.InRange) (l : List (AccountSlot × Nat)) {c : Curve} (curve : c.InRange) (secs : Nat) :
    (r.evaluated l c secs).InRange := by
  have limit := h.loadLimit
  have tank := h.tank
  rw [SetRec.evaluated_eq]
  exact
    { h with
      tank := (Nat.sub_le _ _).trans tank
      remainder := Nat.mod_lt _ (by decide)
      rate := by
        dsimp only
        split
        · exact curve.rateAt_le _
        · exact Nat.zero_le _
      load := Nat.min_le_right _ _
      runtime := rfl
      inReserve := decide_eq_true_iff
      dry := decide_eq_true_iff
      overloaded := by
        rw [decide_eq_true_iff]
        dsimp only
        omega
      entries := Nat.zero_le _
      oneEntry := List.nodup_nil
      amounts := nofun
      overflow := Nat.zero_le _
      runSeconds := satAdd_le _ _ _
      burned := satAdd_le _ _ _
      dryCount := satAdd_le _ _ _ }

/-- The entry of an account that is retired moves into the overflow (R73). -/
theorem dropAccount (h : r.InRange) (a : AccountSlot) : (r.dropAccount a).InRange :=
  { h with
    entries := (List.length_filter_le _ _).trans h.entries
    oneEntry := h.oneEntry.sublist (List.Sublist.map _ List.filter_sublist)
    amounts := fun p hp => h.amounts p (List.mem_filter.mp hp).1
    overflow := satAdd_le _ _ _ }

theorem withoutRelief (h : r.InRange) (i : SetSlot) : (r.withoutRelief i).InRange := by
  rw [SetRec.withoutRelief_eq]
  exact { h with }

end SetRec.InRange

end Sys2Proof.Machine
end

section
/-! Sets, curves and staging in range (R6 to R10, R19, R24, R25, R68, R69): every row and every step. -/

namespace Sys2Proof.Machine

/-- The sets, the curves and the staging buffer are in range, and so is what every flush can move. -/
structure State.Steady (s : State) : Prop where
  inRange : s.SetsInRange
  interval : ∀ ch, (s.feeder ch).interval ≤ 4294967295

theorem State.SetsInRange.curve {s : State} (h : s.SetsInRange) (c : CurveNo) : (s.curves[c]).InRange :=
  ⟨h.rising c, h.highest c⟩

namespace State.SetsInRange

variable {s t : State}

/-- Work beside the sets, the curves and the staging buffer. -/
theorem beside (h : s.SetsInRange) (sets : t.sets = s.sets := by rfl) (curves : t.curves = s.curves := by rfl)
    (staging : t.staging = s.staging := by rfl) : t.SetsInRange where
  sets i r hr := h.sets i r (by rw [set?, ← sets]; exact hr)
  rising := by rw [curves]; exact h.rising
  highest := by rw [curves]; exact h.highest
  staged := by rw [staging]; exact h.staged

/-- A write of the set table. -/
theorem withSets (h : s.SetsInRange) (sets : ∀ i r, t.set? i = some r → r.InRange)
    (curves : t.curves = s.curves := by rfl) (staging : t.staging = s.staging := by rfl) : t.SetsInRange where
  sets := sets
  rising := by rw [curves]; exact h.rising
  highest := by rw [curves]; exact h.highest
  staged := by rw [staging]; exact h.staged

theorem putSet (h : s.SetsInRange) {i : SetSlot} {r : Option SetRec} (range : ∀ q, r = some q → q.InRange) :
    (s.putSet i r).SetsInRange := by
  refine h.withSets fun j q hq => ?_
  by_cases e : j = i
  · subst e; exact range q (by simpa using hq)
  · rw [State.set?_putSet_ne _ _ e] at hq; exact h.sets j q hq

theorem updSet (h : s.SetsInRange) (i : SetSlot) {g : SetRec → SetRec} (keeps : ∀ r, r.InRange → (g r).InRange) :
    (s.updSet i g).SetsInRange :=
  h.putSet fun _ hq => by
    obtain ⟨r, hr, rfl⟩ := Option.map_eq_some_iff.mp hq
    exact keeps r (h.sets i r hr)

theorem mapSets (h : s.SetsInRange) {g : SetRec → SetRec} (keeps : ∀ r, r.InRange → (g r).InRange) :
    ({ s with sets := s.sets.map (Option.map g) } : State).SetsInRange :=
  h.withSets fun i _ hq => by
    rw [State.set?_map] at hq
    obtain ⟨r, hr, rfl⟩ := Option.map_eq_some_iff.mp hq
    exact keeps r (h.sets i r hr)

theorem writeSet (h : s.SetsInRange) {i : SetSlot} {before after : SetRec} (range : after.InRange) :
    (s.writeSet i before after).SetsInRange := by
  rw [State.writeSet_eq]
  exact (h.putSet (i := i) (r := some after) fun q e => by cases e; exact range).beside

theorem port (s : State) (r : Result) (o : Sdo) (h : s.SetsInRange) :
    ({ s with result := r, sdo := o } : State).SetsInRange := h.beside

/-- A served command keeps the ranges if its rule does. -/
theorem serve (h : s.SetsInRange) {body : Except Status Reply} (leads : Leads State.SetsInRange body)
    (next : Machine.serve s body = .next t) : t.SetsInRange := Leads.serve port h leads next

theorem ofNext {u : State} (h : u.SetsInRange)
    (next : (Host.Outcome.next u : Host.Outcome State Fault Refusal) = .next t) : t.SetsInRange := by
  cases next
  exact h

theorem hireSet (h : s.SetsInRange) {unit : BitVec 32} {rating : BitVec 16} {capacity : BitVec 32} {curve : Byte}
    {minHire : BitVec 16} {dayRate tank : BitVec 32}
    (next : execHireSet unit rating capacity curve minHire dayRate tank s = .next t) : t.SetsInRange := by
  refine h.serve (.bind fun _ rated => .bind fun _ holds => .bind fun c _ => .bind fun _ _ => .bind fun _ _ =>
    .bind fun _ _ => .bind fun _ _ => ?_) next
  split
  · exact .error _
  · refine .ok ?_
    rw [State.raiseEntries_eq]
    refine (h.putSet fun q e => ?_).beside
    cases e
    exact .hired (by simpa using require_eq_ok rated) (by simpa using require_eq_ok holds)

theorem amendSet (h : s.SetsInRange) {slot curve idle relief window : Byte} {reserve : BitVec 32}
    {loadLimit : BitVec 16} (next : execAmendSet slot curve reserve loadLimit idle relief window s = .next t) :
    t.SetsInRange := by
  refine h.serve (.bind fun i _ => .bind fun r found => .bind fun c _ => .bind fun a _ => .bind fun x _ =>
    .bind fun rel _ => .bind fun _ _ => .bind fun _ _ => .ok ?_) next
  exact h.writeSet ((h.sets i r (hiredSet_eq_ok found)).amended _ _ _ _ _ _)

theorem dipSet (h : s.SetsInRange) {slot : Byte} {reading : BitVec 32}
    (next : execDipSet slot reading s = .next t) : t.SetsInRange := by
  refine h.serve (.bind fun i _ => .bind fun r found => .ok ?_) next
  exact h.writeSet ((h.sets i r (hiredSet_eq_ok found)).dipped _)

theorem offHireSet (h : s.SetsInRange) {slot : Byte} (next : execOffHireSet slot s = .next t) :
    t.SetsInRange := by
  refine h.serve (.bind fun i _ => .bind fun r _ => .bind fun _ _ => .bind fun _ _ => .bind fun _ _ => .ok ?_) next
  have kept := h.mapSets fun r range => range.withoutRelief i
  exact (kept.putSet (i := i) (r := none) nofun).beside

theorem retireAccount (h : s.SetsInRange) {slot : Byte} (next : execRetireAccount slot s = .next t) :
    t.SetsInRange := by
  refine h.serve (.bind fun a _ => .bind fun _ _ => .bind fun _ _ => .bind fun _ _ => .bind fun _ _ =>
    .bind fun _ _ => .bind fun _ _ => .ok ?_) next
  exact (h.mapSets fun r range => range.dropAccount a).beside

/-- The fuel credited at a hang-up (R132). -/
theorem creditTank (h : s.SetsInRange) (i : SetSlot) (inc : Nat) : (s.creditTank i inc).SetsInRange := by
  unfold State.creditTank
  split
  · exact h
  · rename_i r found
    split
    · exact h
    · rw [State.raiseIf_eq]
      exact (h.writeSet (before := r) ((h.sets i r found).creditFuel inc)).beside

theorem hangUp (h : s.SetsInRange) {p : PositionNo} (next : execHangUp p s = .next t) : t.SetsInRange := by
  have moved : (s.setNozzle p false).SetsInRange := h.beside
  refine ofNext ?_ next
  split
  · exact h
  · dsimp only
    split
    · exact moved
    · split
      · rw [State.raise_eq]
        refine (State.SetsInRange.creditTank ?_ _ _).beside
        exact moved.beside
      · exact moved

/-! ## Curves -/

theorem beginCurve (h : s.SetsInRange) {curve : Byte} (next : execBeginCurve curve s = .next t) :
    t.SetsInRange := by
  refine h.serve (.bind fun c _ => .ok ?_) next
  exact
    { h with
      staged := fun g hg => by
        cases hg
        exact ⟨Nat.zero_le _, List.Pairwise.nil, nofun⟩ }

end State.SetsInRange

/-- Points staged in order, each up to 250,000 mL per hour (R25, R27). -/
def Staged (points : List Nat) : Prop := points.Pairwise (· ≤ ·) ∧ ∀ v ∈ points, v ≤ 250000

/-- A point is brought down to 250,000 and raised to the point before it (R27). -/
theorem Staged.append {points : List Nat} (h : Staged points) (v : Nat) :
    Staged (points ++ [stagedValue points v]) := by
  obtain ⟨ordered, highest⟩ := h
  have last_le : points.getLast?.getD 0 ≤ 250000 := by
    cases e : points.getLast? with
    | none => exact Nat.zero_le _
    | some w => exact highest w (List.mem_of_getLast? e)
  refine ⟨List.pairwise_append.mpr ⟨ordered, List.pairwise_singleton _ _, fun a ha b hb => ?_⟩, fun w hw => ?_⟩
  · rw [List.mem_singleton.mp hb]
    refine le_trans ?_ (Nat.le_max_right _ _)
    obtain ⟨init, w, rfl⟩ := (List.eq_nil_or_concat points).resolve_left (List.ne_nil_of_mem ha)
    rw [List.concat_eq_append] at *
    rcases List.mem_append.mp ha with ha | ha
    · simpa using (List.pairwise_append.mp ordered).2.2 a ha w (List.mem_singleton_self w)
    · simp [List.mem_singleton.mp ha]
  · rcases List.mem_append.mp hw with hw | hw
    · exact highest w hw
    · rw [List.mem_singleton.mp hw]
      exact Nat.max_le.mpr ⟨Nat.min_le_right _ _, last_le⟩

/-- Eleven staged points make a curve in range (R28). -/
theorem Staged.curve {points : List Nat} (h : Staged points) (eleven : points.length = 11) (complete : Bool) :
    (⟨livePoints points, complete⟩ : Curve).InRange where
  rising k := by
    have step := List.pairwise_iff_getElem.mp h.1 k.val (k.val + 1) (by omega) (by omega) (by omega)
    simpa [livePoints, List.getElem?_eq_getElem (show k.val < points.length by omega),
      List.getElem?_eq_getElem (show k.val + 1 < points.length by omega)] using step
  highest := by
    have last := h.2 points[10] (List.getElem_mem _)
    simpa [livePoints, List.getElem?_eq_getElem (show 10 < points.length by omega)] using last

namespace State.SetsInRange

variable {s t : State}

theorem loadCurvePoint (h : s.SetsInRange) {value : BitVec 32} (next : execLoadCurvePoint value s = .next t) :
    t.SetsInRange := by
  refine h.serve ?_ next
  split
  · exact .error _
  · rename_i g staging
    obtain ⟨short, ordered, highest⟩ := h.staged g staging
    have staged := Staged.append ⟨ordered, highest⟩ value.toNat
    have longer : (g.points ++ [stagedValue g.points value.toNat]).length = g.points.length + 1 := by simp
    refine .ok ?_
    split
    · rename_i complete
      rw [decide_eq_true_iff] at complete
      have curve := staged.curve (by omega) true
      have live (c : CurveNo) : ((s.curves.set g.curve
          ⟨livePoints (g.points ++ [stagedValue g.points value.toNat]), true⟩)[c]).InRange := by
        by_cases e : g.curve.val = c.val
        · simpa [e] using curve
        · simpa [e] using h.curve c
      exact
        { sets := h.sets
          rising := fun c => (live c).rising
          highest := fun c => (live c).highest
          staged := nofun }
    · rename_i more
      rw [decide_eq_true_iff] at more
      exact
        { h with
          staged := fun g' hg => by
            cases hg
            exact ⟨by dsimp only; omega, staged.1, staged.2⟩ }

/-! ## Cold start -/

theorem cold (x : Straps) (pins : Pins) : (State.cold x pins).SetsInRange where
  sets i r hr := by simp [State.set?, State.cold] at hr
  rising c k := by simp [State.cold]
  highest c := by simp [State.cold]
  staged := nofun

end State.SetsInRange

namespace State.Steady

variable {s t : State}

theorem of (sets : s.SetsInRange) (totals : s.TotalsInRange) : s.Steady :=
  ⟨sets, fun ch => (totals.interval ch).trans (by decide)⟩

/-- Quiet work keeps the ranges: what is carried to a set is some feeder's interval energy. -/
theorem quiet (h : s.Steady) (q : QuietWork s t) : t.Steady where
  inRange :=
    { sets := fun i r hr => by
        obtain ⟨moved, sources, e⟩ := q.sets i
        rw [e] at hr
        obtain ⟨r', hr', rfl⟩ := Option.map_eq_some_iff.mp hr
        refine SetRec.carryAll_keeps moved (h.inRange.sets i r' hr') fun r p hp range => range.carry ?_
        obtain ⟨ch, rfl, positive⟩ := sources p hp
        exact ⟨positive, h.interval ch⟩
      rising := by rw [q.curves]; exact h.inRange.rising
      highest := by rw [q.curves]; exact h.inRange.highest
      staged := by
        rcases q.staging with e | e <;> rw [e]
        · exact h.inRange.staged
        · nofun }
  interval ch := by
    rcases q.interval ch with e | e <;> rw [e]
    · exact h.interval ch
    · exact Nat.zero_le _

theorem updSet (h : s.Steady) (i : SetSlot) {g : SetRec → SetRec} (keeps : ∀ r, r.InRange → (g r).InRange) :
    (s.updSet i g).Steady := ⟨h.inRange.updSet i keeps, h.interval⟩

theorem evaluate (h : s.Steady) (i : SetSlot) (secs : Nat) : (s.evaluate i secs).1.Steady := by
  cases found : s.set? i with
  | none => rw [State.evaluate_none found]; exact h
  | some r =>
    have collected := h.quiet (QuietWork.collectFeeders s i secs)
    have range := (h.inRange.sets i r found).evaluated (s.contributions i r) (h.inRange.curve r.curve) secs
    have frame := State.evaluate_frame found secs
    have written := collected.inRange.putSet (i := i)
      (r := some (r.evaluated (s.contributions i r) s.curves[r.curve] secs)) fun q e => by cases e; exact range
    refine ⟨written.beside (by rw [frame]) (by rw [frame]) (by rw [frame]), fun ch => ?_⟩
    rw [State.feeder_evaluate found]
    exact collected.interval ch

theorem reportRun (h : s.Steady) {slot report : Byte} (next : execReportRun slot report s = .next t) :
    t.SetsInRange := by
  refine h.inRange.serve (.bind fun i _ => .bind fun _ _ => .bind fun r _ => .bind fun _ _ =>
    .ite (fun _ => .ok ?_) fun _ => .ok ?_) next
  · have started := h.updSet i (g := SetRec.started) fun r range => range.timed (Nat.zero_le _) nofun
    exact (started.quiet (FeederWork.scan _).quiet).inRange
  · have partly : (s.partialEvaluation i (r.timer / 1000)).1.Steady := by
      unfold State.partialEvaluation
      split
      · exact h
      · exact h.evaluate i _
    have stopped := partly.updSet i (g := SetRec.stopped) fun r range =>
      range.timed (Nat.zero_le _) fun _ => ⟨rfl, rfl⟩
    exact (stopped.quiet (FeederWork.scan _).quiet).inRange

theorem intervalExpiry (h : s.Steady) {i : SetSlot} (next : execIntervalExpiry i s = .next t) :
    t.SetsInRange := by
  refine State.SetsInRange.ofNext ?_ next
  split
  · exact h.inRange
  · split
    · have again := (h.evaluate i 60).updSet i (g := fun r => { r with timer := 0, expiring := false })
        fun r range => range.timed (running := r.running) (Nat.zero_le _) fun _ => ⟨rfl, rfl⟩
      exact (again.quiet (FeederWork.scan _).quiet).inRange
    · exact h.inRange

theorem tick (h : s.Steady) : s.tick.SetsInRange := by
  have timers : ({ s with sets := s.sets.map (Option.map SetRec.tick) } : State).Steady :=
    ⟨h.inRange.mapSets fun r range => range.tick, h.interval⟩
  exact (timers.quiet (QuietWork.tick s)).inRange

theorem assignFeederAccount (h : s.Steady) {channel account : Byte}
    (next : execAssignFeederAccount channel account s = .next t) : t.SetsInRange := by
  refine h.inRange.serve (.bind fun ch _ => .bind fun _ _ => .bind fun _ _ => .bind fun _ _ => .ok ?_) next
  exact (h.quiet (QuietWork.flush s ch)).inRange.beside

end State.Steady

namespace State.SetsInRange

variable {s t : State}

/-! ## Rows beside the sets and the curves -/

theorem closeTicket (h : s.SetsInRange) {position : Byte} {docket : BitVec 24}
    (next : execCloseTicket position docket s = .next t) : t.SetsInRange := by
  refine h.serve (.bind fun p _ => .bind fun _ _ => ?_) next
  split
  · exact .ok h
  · exact .ite (fun _ => .ok h) fun _ => .ite (fun _ => .ok h) fun _ =>
      .ite (fun _ => .ok h.beside) fun _ => .ok h

theorem cancelTicket (h : s.SetsInRange) {position : Byte} (next : execCancelTicket position s = .next t) :
    t.SetsInRange := by
  refine h.serve (.bind fun p _ => ?_) next
  split
  · exact .error _
  · exact .bind fun _ _ => .ok h.beside

theorem openAccount (h : s.SetsInRange) {code : BitVec 32} {label : List Byte}
    (next : execOpenAccount code label s = .next t) : t.SetsInRange := by
  refine h.serve (.bind fun _ _ => ?_) next
  split
  · exact .error _
  · exact .ok h.beside

theorem releaseStatement (h : s.SetsInRange) {slot : Byte} (next : execReleaseStatement slot s = .next t) :
    t.SetsInRange := by
  refine h.serve (.bind fun _ _ => .bind fun _ _ => ?_) next
  split
  · exact .error _
  · exact .ok h.beside

theorem energyPulse (h : s.SetsInRange) {ch : Channel} (next : execEnergyPulse ch s = .next t) :
    t.SetsInRange := by
  refine ofNext ?_ next
  split
  · rw [State.billEnergy_eq]
    exact h.beside
  · exact h

theorem fuelPulse (h : s.SetsInRange) {p : PositionNo} (next : execFuelPulse p s = .next t) : t.SetsInRange := by
  refine ofNext ?_ next
  dsimp only
  split
  · exact h.beside (by simp) (by simp) (by simp)
  · split
    · exact h.beside (by simp) (by simp) (by simp)
    · exact h.beside (by simp) (by simp) (by simp)

theorem nozzleLift (h : s.SetsInRange) {p : PositionNo} (next : execNozzleLift p s = .next t) :
    t.SetsInRange := by
  refine ofNext ?_ next
  split
  · exact h
  · dsimp only
    split
    · exact h.beside
    · split <;> exact h.beside

/-- Every row that is not quiet, but the raw frame. -/
theorem row (h : s.Steady) : ∀ c : Instr, quietRow c = false → (∀ f, c ≠ .unknownCommand f) →
    exec c s = .next t → t.SetsInRange
  | .hireSet _ _ _ _ _ _ _, _, _, next => h.inRange.hireSet next
  | .reportRun _ _, _, _, next => h.reportRun next
  | .amendSet _ _ _ _ _ _ _, _, _, next => h.inRange.amendSet next
  | .dipSet _ _, _, _, next => h.inRange.dipSet next
  | .offHireSet _, _, _, next => h.inRange.offHireSet next
  | .beginCurve _, _, _, next => h.inRange.beginCurve next
  | .loadCurvePoint _, _, _, next => h.inRange.loadCurvePoint next
  | .bindSide _ _ _, _, _, next => h.inRange.serve (.bind fun _ _ => .bind fun _ _ => .bind fun _ _ =>
      .bind fun _ _ => .bind fun _ _ => .bind fun _ _ => .bind fun _ _ => .bind fun _ _ => .ok h.inRange.beside) next
  | .assignFeederAccount _ _, _, _, next => h.assignFeederAccount next
  | .registerSupplier _ _, _, _, next => h.inRange.serve (.bind fun _ _ => .bind fun _ _ => .bind fun _ _ =>
      .ok h.inRange.beside) next
  | .openTicket _ _ _ _, _, _, next => h.inRange.serve (.bind fun _ _ => .bind fun _ _ => .bind fun _ _ =>
      .bind fun _ _ => .bind fun _ _ => .bind fun _ _ => .bind fun _ _ => .ok h.inRange.beside) next
  | .setPermitMode _ _, _, _, next => h.inRange.serve (.bind fun _ _ => .bind fun _ _ =>
      .ite (fun _ => .ok h.inRange) fun _ => .ok h.inRange.beside) next
  | .closeTicket _ _, _, _, next => h.inRange.closeTicket next
  | .cancelTicket _, _, _, next => h.inRange.cancelTicket next
  | .openAccount _ _, _, _, next => h.inRange.openAccount next
  | .settleAccount _, _, _, next => h.inRange.serve (.bind fun _ _ => .bind fun _ _ => .bind fun _ _ =>
      .bind fun _ _ => .bind fun _ _ => .ok h.inRange.beside) next
  | .releaseStatement _, _, _, next => h.inRange.releaseStatement next
  | .retireAccount _, _, _, next => h.inRange.retireAccount next
  | .placeHold _, _, _, next => h.inRange.serve (.bind fun _ _ => .bind fun _ _ => .ok h.inRange.beside) next
  | .releaseAllHolds, _, _, next => h.inRange.serve (.ok h.inRange.beside) next
  | .energyPulse _, _, _, next => h.inRange.energyPulse next
  | .intervalExpiry _, _, _, next => h.intervalExpiry next
  | .fuelPulse _, _, _, next => h.inRange.fuelPulse next
  | .nozzleLift _, _, _, next => h.inRange.nozzleLift next
  | .hangUp _, _, _, next => h.inRange.hangUp next
  | .coldStart x pins, _, _, next => ofNext (cold x pins).beside next
  | .unknownCommand f, _, raw, _ => absurd rfl (raw f)

theorem stepLeads : StepLeads State.Steady State.SetsInRange where
  waits _ _ _ _ h := ⟨h.inRange.beside, h.interval⟩
  port s r o h := port s r o h.inRange
  rows c s t raw h next := by
    cases q : quietRow c with
    | true => exact (h.quiet (exec_quiet s t c q next)).inRange
    | false => exact row h c q raw next
  tick _ h := h.tick

end State.SetsInRange

end Sys2Proof.Machine
end

section
/-! Tickets, positions and dockets in range (R123, R124, R127 to R132, R138 to R140): every row and every step. -/

namespace Sys2Proof.Machine

/-! ## One ticket -/

namespace Ticket.InRange

variable {u : Ticket}

/-- A ticket as opened, for no more than a tank holds (R127). -/
theorem opened {i : SetSlot} {n : SupplierNo} {ordered : Nat} (fits : ordered ≤ 4000000) :
    (Ticket.opened i n ordered).InRange where
  ordered := fits
  delivered := Nat.zero_le _
  liftMark := Nat.zero_le _
  remaining := by simp only [Ticket.opened]; omega
  lifts := Nat.zero_le _
  ready _ := rfl
  atRest _ := rfl
  running := nofun
  preset := nofun
  overrun := iff_of_false nofun (by simp only [Ticket.opened]; omega)

/-- A pulse on a dispensing ticket: where the delivered total is cut short, remaining stands at the overrun
limit (R129, R130). -/
theorem pulsed (h : u.InRange) (dispensing : u.state = .dispensing) (w : Nat) : (u.pulsed w).InRange := by
  have ordered := h.ordered
  have mark := h.liftMark
  have most := h.delivered
  have remaining := h.remaining
  have total : (u.pulsed w).delivered = min 16777215 (u.delivered + w) := rfl
  have left : (u.pulsed w).remaining = max (-100000) (u.remaining - w) := rfl
  exact
    { h with
      delivered := by omega
      liftMark := by
        rw [total]
        exact Nat.le_min.mpr ⟨mark.trans most, mark.trans (Nat.le_add_right _ _)⟩
      remaining := by rw [left, total]; simp only [Ticket.pulsed]; omega
      ready := fun ready => nomatch ready.symm.trans dispensing
      atRest := fun rest => absurd dispensing rest
      running := h.running
      preset := fun preset => by
        simp only [Ticket.pulsed, Bool.or_eq_true, Bool.and_eq_true, decide_eq_true_iff] at preset
        rw [left]
        rcases preset with before | ⟨_, now⟩
        · have := h.preset before
          omega
        · omega
      overrun := by
        have before := h.overrun
        rw [left]
        simp only [Ticket.pulsed, Bool.or_eq_true, decide_eq_true_iff, before]
        omega }

/-- A lift begins a run of a ticket at rest (R128). -/
theorem lifted (h : u.InRange) (rest : u.state ≠ .dispensing) : u.lifted.InRange :=
  { h with
    liftMark := Nat.le_refl _
    lifts := satAdd_le _ _ _
    ready := nofun
    atRest := fun other => absurd rfl other
    running := fun _ => h.atRest rest }

/-- A hang-up credits the run (R132). -/
theorem hungUp (h : u.InRange) (dispensing : u.state = .dispensing) : u.hungUp.InRange :=
  { h with
    ready := nofun
    atRest := fun _ => by
      have mark := h.liftMark
      have credited := h.running dispensing
      simp only [Ticket.hungUp, Ticket.increment]
      omega
    running := nofun }

end Ticket.InRange

/-! ## The tables -/

namespace State.FuelInRange

variable {s t : State}

theorem beside (h : s.FuelInRange) (positions : t.positions = s.positions := by rfl)
    (suppliers : t.suppliers = s.suppliers := by rfl) : t.FuelInRange where
  tickets p u hu := h.tickets p u (by rw [position, ← positions]; exact hu)
  stray p := by rw [position, positions]; exact h.stray p
  delivered n := by rw [supplier, suppliers]; exact h.delivered n
  dockets n k hk := h.dockets n k (by rw [supplier, ← suppliers]; exact hk)

/-- Shared work on the records reaches no position and no supplier. -/
theorem reaches (h : s.FuelInRange) (work : ReachesRecords s t) : t.FuelInRange := by
  rw [work]
  exact h.beside

theorem putPosition (h : s.FuelInRange) {p : PositionNo} {r : Position}
    (ticket : ∀ u, r.ticket = some u → u.InRange) (stray : r.stray ≤ 16777215) :
    (s.putPosition p r).FuelInRange where
  tickets q u hu := by
    by_cases e : q = p
    · subst e; exact ticket u (by simpa using hu)
    · rw [State.position_putPosition_ne _ _ e] at hu; exact h.tickets q u hu
  stray q := by
    by_cases e : q = p
    · subst e; simpa using stray
    · rw [State.position_putPosition_ne _ _ e]; exact h.stray q
  delivered := h.delivered
  dockets := h.dockets

theorem putSupplier (h : s.FuelInRange) {n : SupplierNo} {r : Supplier} (delivered : r.delivered ≤ 4294967295)
    (docket : ∀ k, r.docket = .next k → 1 ≤ k ∧ k ≤ 999999) : (s.putSupplier n r).FuelInRange where
  tickets := h.tickets
  stray := h.stray
  delivered m := by
    by_cases e : m = n
    · subst e; simpa using delivered
    · rw [State.supplier_putSupplier_ne _ _ e]; exact h.delivered m
  dockets m k hk := by
    by_cases e : m = n
    · subst e; exact docket k (by simpa using hk)
    · rw [State.supplier_putSupplier_ne _ _ e] at hk; exact h.dockets m k hk

theorem serve (h : s.FuelInRange) {body : Except Status Reply} (leads : Leads State.FuelInRange body)
    (next : Machine.serve s body = .next t) : t.FuelInRange :=
  Leads.serve (fun _ _ _ h => h.beside) h leads next

theorem ofNext {u : State} (h : u.FuelInRange)
    (next : (Host.Outcome.next u : Host.Outcome State Fault Refusal) = .next t) : t.FuelInRange := by
  cases next
  exact h

/-! ## Rows of the Fuel Metering Unit -/

theorem registerSupplier (h : s.FuelInRange) {supplier : Byte} {docket : BitVec 24}
    (next : execRegisterSupplier supplier docket s = .next t) : t.FuelInRange := by
  refine h.serve (.bind fun _ _ => .bind fun _ numbered => .bind fun _ _ => .ok ?_) next
  refine h.putSupplier (Nat.zero_le _) fun k hk => ?_
  cases hk
  simpa using require_eq_ok numbered

theorem openTicket (h : s.FuelInRange) (sets : s.SetsInRange) {position slot supplier : Byte}
    {ordered : BitVec 32} (next : execOpenTicket position slot supplier ordered s = .next t) :
    t.FuelInRange := by
  refine h.serve (.bind fun p _ => .bind fun i _ => .bind fun n _ => .bind fun _ _ => .bind fun r found =>
    .bind fun _ _ => .bind fun _ _ => .ok ?_) next
  have capacity := (sets.sets i r (hiredSet_eq_ok found)).capacity
  refine h.putPosition (fun u hu => ?_) (h.stray p)
  cases hu
  exact .opened (by omega)

theorem setPermitMode (h : s.FuelInRange) {position mode : Byte}
    (next : execSetPermitMode position mode s = .next t) : t.FuelInRange := by
  refine h.serve (.bind fun p _ => .bind fun m _ => .ite (fun _ => .ok h) fun _ => .ok ?_) next
  exact h.putPosition (h.tickets p) (h.stray p)


theorem closeTicket (h : s.FuelInRange) {position : Byte} {docket : BitVec 24}
    (next : execCloseTicket position docket s = .next t) : t.FuelInRange := by
  refine h.serve (.bind fun p _ => .bind fun _ numbered => ?_) next
  have numbered : 1 ≤ docket.toNat ∧ docket.toNat ≤ 999999 := by simpa using require_eq_ok numbered
  split
  · exact .ok h
  · refine .ite (fun _ => .ok h) fun _ => .ite (fun _ => .ok h) fun _ => .ite (fun _ => .ok ?_) fun _ => .ok h
    refine (h.putSupplier (satAdd_le _ _ _) fun k hk => ?_).putPosition (fun u hu => by cases hu) (h.stray p)
    simp only [Supplier.closedTicket, Docket.advance] at hk
    split at hk
    · cases hk
    · cases hk
      omega

theorem cancelTicket (h : s.FuelInRange) {position : Byte} (next : execCancelTicket position s = .next t) :
    t.FuelInRange := by
  refine h.serve (.bind fun p _ => ?_) next
  split
  · exact .error _
  · refine .bind fun _ _ => .ok (h.putPosition (fun u hu => ?_) (h.stray p))
    cases hu

theorem fuelPulse (h : s.FuelInRange) {p : PositionNo} (next : execFuelPulse p s = .next t) : t.FuelInRange := by
  have stray : ((s.putPosition p { s.position p with
      stray := satAdd max24 (s.position p).stray s.fuelWeight }).raise .strayFuel).FuelInRange := by
    refine State.FuelInRange.reaches ?_ (.raise _ _)
    exact h.putPosition (h.tickets p) (satAdd_le _ _ _)
  refine ofNext ?_ next
  dsimp only
  split
  · exact stray
  · rename_i u held
    split
    · rename_i dispensing
      refine State.FuelInRange.reaches ?_ (.after (.raiseIf _ _ _) (.raiseIf _ _ _))
      refine h.putPosition (fun v hv => ?_) (h.stray p)
      cases hv
      exact (h.tickets p u held).pulsed dispensing _
    · exact stray

theorem nozzleLift (h : s.FuelInRange) {p : PositionNo} (next : execNozzleLift p s = .next t) :
    t.FuelInRange := by
  have moved : (s.setNozzle p true).FuelInRange := h.beside
  refine ofNext ?_ next
  split
  · exact h
  · dsimp only
    split
    · exact moved
    · rename_i u held
      split
      · exact moved
      · rename_i rest
        refine moved.putPosition (fun v hv => ?_) (h.stray p)
        cases hv
        exact (h.tickets p u held).lifted rest

theorem hangUp (h : s.FuelInRange) {p : PositionNo} (next : execHangUp p s = .next t) : t.FuelInRange := by
  have moved : (s.setNozzle p false).FuelInRange := h.beside
  refine ofNext ?_ next
  split
  · exact h
  · dsimp only
    split
    · exact moved
    · rename_i u held
      split
      · rename_i dispensing
        refine State.FuelInRange.reaches ?_ (.after (.raise _ _) (.creditTank _ _ _))
        refine moved.putPosition (fun v hv => ?_) (h.stray p)
        cases hv
        exact (h.tickets p u held).hungUp dispensing
      · exact moved

theorem cold (x : Straps) (pins : Pins) : (State.cold x pins).FuelInRange where
  tickets p u hu := by simp [State.position, State.cold] at hu
  stray p := by simp [State.position, State.cold]
  delivered n := by simp [State.supplier, State.cold]
  dockets n k hk := by simp [State.supplier, State.cold] at hk

/-! ## Rows beside the positions and the suppliers -/

theorem hireSet (h : s.FuelInRange) {unit : BitVec 32} {rating : BitVec 16} {capacity : BitVec 32} {curve : Byte}
    {minHire : BitVec 16} {dayRate tank : BitVec 32}
    (next : execHireSet unit rating capacity curve minHire dayRate tank s = .next t) : t.FuelInRange := by
  refine h.serve (.bind fun _ _ => .bind fun _ _ => .bind fun _ _ => .bind fun _ _ => .bind fun _ _ =>
    .bind fun _ _ => .bind fun _ _ => ?_) next
  split
  · exact .error _
  · exact .ok (h.reaches (.after (.raiseEntries _ _ _) (.putSet s _ _)))

theorem reportRun (h : s.FuelInRange) {slot report : Byte} (next : execReportRun slot report s = .next t) :
    t.FuelInRange := by
  refine h.serve (.bind fun i _ => .bind fun _ _ => .bind fun r _ => .bind fun _ _ =>
    .ite (fun _ => .ok ?_) fun _ => .ok ?_) next
  · exact h.reaches (.after (.scan _) (.updSet s i _))
  · have partly : (s.partialEvaluation i (r.timer / 1000)).1.FuelInRange := by
      unfold State.partialEvaluation
      split
      · exact h
      · exact h.reaches (.evaluate s i _)
    exact partly.reaches (.after (.scan _) (.updSet _ i _))

theorem intervalExpiry (h : s.FuelInRange) {i : SetSlot} (next : execIntervalExpiry i s = .next t) :
    t.FuelInRange := by
  refine ofNext ?_ next
  split
  · exact h
  · split
    · exact h.reaches (.trans (.evaluate s i 60) (.after (.scan _) (.updSet _ i _)))
    · exact h

theorem loadCurvePoint (h : s.FuelInRange) {value : BitVec 32} (next : execLoadCurvePoint value s = .next t) :
    t.FuelInRange := by
  refine h.serve ?_ next
  split
  · exact .error _
  · refine .ok ?_
    split <;> exact h.beside

theorem openAccount (h : s.FuelInRange) {code : BitVec 32} {label : List Byte}
    (next : execOpenAccount code label s = .next t) : t.FuelInRange := by
  refine h.serve (.bind fun _ _ => ?_) next
  split
  · exact .error _
  · exact .ok h.beside

theorem releaseStatement (h : s.FuelInRange) {slot : Byte} (next : execReleaseStatement slot s = .next t) :
    t.FuelInRange := by
  refine h.serve (.bind fun _ _ => .bind fun _ _ => ?_) next
  split
  · exact .error _
  · exact .ok h.beside

theorem energyPulse (h : s.FuelInRange) {ch : Channel} (next : execEnergyPulse ch s = .next t) :
    t.FuelInRange := by
  refine ofNext ?_ next
  split
  · exact h.reaches (.after (.billEnergy _ _ _) (.putFeeder s ch _))
  · exact h

/-- Every row that is not quiet, but the raw frame. -/
theorem row (h : s.FuelInRange) (sets : s.SetsInRange) : ∀ c : Instr, quietRow c = false →
    (∀ f, c ≠ .unknownCommand f) → exec c s = .next t → t.FuelInRange
  | .hireSet _ _ _ _ _ _ _, _, _, next => h.hireSet next
  | .reportRun _ _, _, _, next => h.reportRun next
  | .amendSet _ _ _ _ _ _ _, _, _, next => h.serve (.bind fun i _ => .bind fun _ _ => .bind fun _ _ =>
      .bind fun _ _ => .bind fun _ _ => .bind fun _ _ => .bind fun _ _ => .bind fun _ _ =>
        .ok (h.reaches (.writeSet s i _ _))) next
  | .dipSet _ _, _, _, next => h.serve (.bind fun i _ => .bind fun _ _ => .ok (h.reaches (.writeSet s i _ _))) next
  | .offHireSet _, _, _, next => h.serve (.bind fun _ _ => .bind fun _ _ => .bind fun _ _ => .bind fun _ _ =>
      .bind fun _ _ => .ok h.beside) next
  | .beginCurve _, _, _, next => h.serve (.bind fun _ _ => .ok h.beside) next
  | .loadCurvePoint _, _, _, next => h.loadCurvePoint next
  | .bindSide _ _ _, _, _, next => h.serve (.bind fun _ _ => .bind fun _ _ => .bind fun _ _ => .bind fun _ _ =>
      .bind fun _ _ => .bind fun _ _ => .bind fun _ _ => .bind fun _ _ => .ok h.beside) next
  | .assignFeederAccount _ _, _, _, next => h.serve (.bind fun ch _ => .bind fun _ _ => .bind fun _ _ =>
      .bind fun _ _ => .ok (h.reaches (.trans (.flush s ch) (.putFeeder _ ch _)))) next
  | .registerSupplier _ _, _, _, next => h.registerSupplier next
  | .openTicket _ _ _ _, _, _, next => h.openTicket sets next
  | .setPermitMode _ _, _, _, next => h.setPermitMode next
  | .closeTicket _ _, _, _, next => h.closeTicket next
  | .cancelTicket _, _, _, next => h.cancelTicket next
  | .openAccount _ _, _, _, next => h.openAccount next
  | .settleAccount _, _, _, next => h.serve (.bind fun _ _ => .bind fun _ _ => .bind fun _ _ => .bind fun _ _ =>
      .bind fun _ _ => .ok h.beside) next
  | .releaseStatement _, _, _, next => h.releaseStatement next
  | .retireAccount _, _, _, next => h.serve (.bind fun _ _ => .bind fun _ _ => .bind fun _ _ => .bind fun _ _ =>
      .bind fun _ _ => .bind fun _ _ => .bind fun _ _ => .ok h.beside) next
  | .placeHold _, _, _, next => h.serve (.bind fun _ _ => .bind fun _ _ => .ok h.beside) next
  | .releaseAllHolds, _, _, next => h.serve (.ok h.beside) next
  | .energyPulse _, _, _, next => h.energyPulse next
  | .intervalExpiry _, _, _, next => h.intervalExpiry next
  | .fuelPulse _, _, _, next => h.fuelPulse next
  | .nozzleLift _, _, _, next => h.nozzleLift next
  | .hangUp _, _, _, next => h.hangUp next
  | .coldStart x pins, _, _, next => ofNext (cold x pins).beside next
  | .unknownCommand f, _, raw, _ => absurd rfl (raw f)

/-- A millisecond reaches no position and no supplier (R167). -/
theorem tick (h : s.FuelInRange) : s.tick.FuelInRange :=
  h.beside (QuietWork.tick s).positions (QuietWork.tick s).suppliers

theorem stepLeads : StepLeads (fun s => s.SetsInRange ∧ s.FuelInRange) State.FuelInRange where
  waits _ _ _ _ h := ⟨h.1.beside, h.2.beside⟩
  port _ _ _ h := h.2.beside
  rows c s t raw h next := by
    obtain ⟨sets, fuel⟩ := h
    cases q : quietRow c with
    | true => exact fuel.beside (exec_quiet s t c q next).positions (exec_quiet s t c q next).suppliers
    | false => exact fuel.row sets c q raw next
  tick _ h := h.2.tick

end State.FuelInRange

/-- Settles O58: by the ranges of one record under each operation, and the rows and the millisecond. -/
theorem everyStepKeepsSetsAndTicketsInRange : Obligations.EveryStepKeepsSetsAndTicketsInRange :=
  ⟨fun _ _ sets totals next => State.SetsInRange.stepLeads.step (.of sets totals) next,
    fun _ _ sets fuel next => State.FuelInRange.stepLeads.step ⟨sets, fuel⟩ next⟩

end Sys2Proof.Machine
end

section
/-! The Set Table's commands, outcome by outcome (R11, R14 to R18, R21 to R23), and cold start (R179). -/

namespace Sys2Proof.Machine

/-! ## Answers and notices -/

/-- A refused command, as `serve` answers it (R3). -/
theorem serve_refused {s : State} {body : Except Status Reply} {st : Status} (hopen : s.portOpen = true)
    (h : body = .error st) : serve s body = s.refused st := by
  rw [h, serve_error hopen]
  rfl

theorem hiredSet_some {s : State} {i : SetSlot} {r : SetRec} (h : s.set? i = some r) : hiredSet s i = .ok r := by
  rw [hiredSet, h]

theorem hiredSet_none {s : State} {i : SetSlot} (h : s.set? i = none) : hiredSet s i = .error .noRecord := by
  rw [hiredSet, h]

theorem openSlot_some {s : State} {a : AccountSlot} {r : Account} (h : s.account? a = some r) :
    openSlot s a = .ok r := by
  rw [openSlot, h]

theorem openSlot_none {s : State} {a : AccountSlot} (h : s.account? a = none) : openSlot s a = .error .noRecord := by
  rw [openSlot, h]

/-! ## Hire Set (R11) -/

theorem State.slotOfUnit_isSome {s : State} {unit : BitVec 32} (h : ∃ j q, s.set? j = some q ∧ q.unit = unit) :
    (s.slotOfUnit unit).isNone = false := by
  obtain ⟨j, q, found, carries⟩ := h
  cases e : s.slotOfUnit unit with
  | none => exact absurd carries (State.slotOfUnit_eq_none.mp e j q found)
  | some _ => rfl

theorem State.freeSlot_eq_none {s : State} (h : ∀ j, (s.set? j).isSome = true) : s.freeSlot = none := by
  rw [State.freeSlot, List.find?_eq_none]
  exact fun j _ => by simp [Option.isSome_iff_ne_none.mp (h j)]

/-- The lowest free slot is found first (R11). -/
theorem State.freeSlot_eq_some {s : State} {i : SetSlot} (free : s.set? i = none)
    (below : ∀ j, j < i → (s.set? j).isSome = true) : s.freeSlot = some i := by
  have inOrder : slots = List.ofFn (id : SetSlot → SetSlot) := by decide
  rw [State.freeSlot, inOrder]
  refine (List.find?_ofFn_eq_some_of_injective Function.injective_id).mpr ⟨by simp [free], fun j hj => ?_⟩
  simp [Option.isSome_iff_ne_none.mp (below j hj)]

/-- A check in front of a rule (R3). -/
theorem require_bind {α : Type} (c : Bool) (st : Status) (f : Unit → Except Status α) :
    (require c st >>= f) = if c then f () else .error st := by
  cases c <;> rfl

section HireSet

variable {s : State} {unit : BitVec 32} {rating : BitVec 16} {capacity : BitVec 32} {curve : Byte}
  {minHire : BitVec 16} {dayRate tank : BitVec 32} (hopen : s.portOpen = true)

/-- The five ranges of Hire Set (R11). -/
def HireInRange (rating : BitVec 16) (capacity : BitVec 32) (curve : Byte) (minHire : BitVec 16)
    (dayRate : BitVec 32) : Prop :=
  (10 ≤ rating.toNat ∧ rating.toNat ≤ 2000) ∧ (50000 ≤ capacity.toNat ∧ capacity.toNat ≤ 4000000)
    ∧ curve.toNat ≤ 5 ∧ minHire.toNat ≤ 43200 ∧ dayRate.toNat ≤ 1000000

include hopen

/-- The first value out of its range refuses the command with RANGE (R11). -/
theorem execHireSet_range (h : ¬ HireInRange rating capacity curve minHire dayRate) :
    execHireSet unit rating capacity curve minHire dayRate tank s = s.refused .range := by
  unfold HireInRange at h
  refine serve_refused hopen ?_
  simp only [require_bind, Bool.and_eq_true, decide_eq_true_iff]
  by_cases rated : 10 ≤ rating.toNat ∧ rating.toNat ≤ 2000
  · by_cases holds : 50000 ≤ capacity.toNat ∧ capacity.toNat ≤ 4000000
    · rw [if_pos rated, if_pos holds]
      by_cases known : curve.toNat < 6
      · rw [indexOperand_ok (i := ⟨curve.toNat, known⟩) rfl, ok_bind]
        by_cases minimum : minHire.toNat ≤ 43200
        · rw [if_pos minimum, if_neg fun rate => h ⟨rated, holds, by omega, minimum, rate⟩]
        · rw [if_neg minimum]
      · rw [indexOperand_range (by omega), error_bind]
    · rw [if_pos rated, if_neg holds]
  · rw [if_neg rated]

section InRange

variable (inRange : HireInRange rating capacity curve minHire dayRate)
include inRange

theorem execHireSet_noClock (invalid : s.clock.valid = false) :
    execHireSet unit rating capacity curve minHire dayRate tank s = s.refused .noClock := by
  obtain ⟨rated, holds, known, minimum, rate⟩ := inRange
  refine serve_refused hopen ?_
  simp [require_bind, rated, holds, minimum, rate, invalid,
    indexOperand_ok (b := curve) (i := (⟨curve.toNat, by omega⟩ : CurveNo)) rfl]

theorem execHireSet_exists (valid : s.clock.valid = true) (taken : ∃ j q, s.set? j = some q ∧ q.unit = unit) :
    execHireSet unit rating capacity curve minHire dayRate tank s = s.refused .exists := by
  obtain ⟨rated, holds, known, minimum, rate⟩ := inRange
  refine serve_refused hopen ?_
  simp only [require_bind, rated, holds, minimum, rate, valid, State.slotOfUnit_isSome taken, decide_true,
    Bool.and_self, if_true, Bool.false_eq_true, if_false, ok_bind,
    indexOperand_ok (b := curve) (i := (⟨curve.toNat, by omega⟩ : CurveNo)) rfl]

theorem execHireSet_full (valid : s.clock.valid = true) (fresh : ¬ ∃ j q, s.set? j = some q ∧ q.unit = unit)
    (full : ∀ j, (s.set? j).isSome = true) :
    execHireSet unit rating capacity curve minHire dayRate tank s = s.refused .full := by
  obtain ⟨rated, holds, known, minimum, rate⟩ := inRange
  have unknown : s.slotOfUnit unit = none := State.slotOfUnit_eq_none.mpr fun j q hq e => fresh ⟨j, q, hq, e⟩
  refine serve_refused hopen ?_
  simp [require_bind, rated, holds, minimum, rate, valid, unknown, State.freeSlot_eq_none full,
    indexOperand_ok (b := curve) (i := (⟨curve.toNat, by omega⟩ : CurveNo)) rfl]

/-- With every check passed the lowest free slot takes the record of a set as hired (R11). -/
theorem execHireSet_hires (valid : s.clock.valid = true) (fresh : ¬ ∃ j q, s.set? j = some q ∧ q.unit = unit)
    {i : SetSlot} {k : CurveNo} (free : s.set? i = none) (below : ∀ j, j < i → (s.set? j).isSome = true)
    (curve_eq : curve.toNat = k.val) :
    execHireSet unit rating capacity curve minHire dayRate tank s =
      let r := SetRec.hired unit rating.toNat capacity.toNat k minHire.toNat dayRate.toNat s.clock.minute tank.toNat
      .next { (s.putSet i (some r)).raiseEntries ⟨false, false, false, false⟩ r.conds with
        result := ⟨clampedIf (capacity.toNat < tank.toNat), byte (slotCode (some i)) ++ be 3 r.tank⟩
        sdo := .low } := by
  obtain ⟨rated, holds, known, minimum, rate⟩ := inRange
  have unknown : s.slotOfUnit unit = none := State.slotOfUnit_eq_none.mpr fun j q hq e => fresh ⟨j, q, hq, e⟩
  rw [execHireSet]
  simp only [require_bind, rated, holds, minimum, rate, valid, unknown, State.freeSlot_eq_some free below,
    indexOperand_ok curve_eq, decide_true, Bool.and_self, if_true, Option.isNone_none, ok_bind]
  exact serve_ok hopen

end InRange

end HireSet

theorem clampedIf_decide (p : Prop) [Decidable p] : clampedIf (decide p) = if p then .clamped else .ok := by
  by_cases p <;> simp_all [clampedIf]

/-- Settles O24: each outcome of Hire Set is one of the equations above. -/
theorem hireSetFillsTheLowestFreeSlot : Obligations.HireSetFillsTheLowestFreeSlot := by
  intro s unit rating capacity curve minHire dayRate tank hopen
  refine ⟨execHireSet_range hopen, execHireSet_noClock hopen, execHireSet_exists hopen, execHireSet_full hopen,
    fun i k inRange valid fresh free below curve_eq => ?_⟩
  refine (execHireSet_hires hopen inRange valid fresh free below curve_eq).trans ?_
  simp only [State.raiseEntries, clampedIf_decide]
  rfl

end Sys2Proof.Machine
end

section
/-! Report Run, Amend Set, Dip Set and Off-Hire Set, outcome by outcome (R14 to R18, R21 to R23). -/

namespace Sys2Proof.Machine

theorem reportOperand_started {report : Byte} (h : report.toNat = 1) : reportOperand report = .ok true := by
  rw [reportOperand, if_pos h]

theorem reportOperand_stopped {report : Byte} (h : report.toNat = 0) : reportOperand report = .ok false := by
  rw [reportOperand, if_neg (by omega), if_pos h]

theorem reportOperand_range {report : Byte} (h : 2 ≤ report.toNat) : reportOperand report = .error .range := by
  rw [reportOperand, if_neg (by omega), if_neg (by omega)]

/-- A change of a hired set's record is a write of the set table. -/
theorem State.updSet_eq {s : State} {i : SetSlot} {r : SetRec} (found : s.set? i = some r) (g : SetRec → SetRec) :
    s.updSet i g = { s with sets := s.sets.set i (some (g r)) } := by
  rw [State.updSet, found]
  rfl

/-- A write that keeps UNCOSTED raises the flags of the other three conditions it enters (R20). -/
theorem State.writeSet_same (s : State) (i : SetSlot) {before after : SetRec}
    (uncosted : after.conds.uncosted = before.conds.uncosted) :
    s.writeSet i before after = (((s.putSet i (some after)).raiseIf
      (after.conds.reserve && !before.conds.reserve) .reserve).raiseIf
      (after.conds.dry && !before.conds.dry) .dry).raiseIf
      (after.conds.overload && !before.conds.overload) .overload := by
  simp [State.writeSet, State.raiseEntries, uncosted, Bool.and_comm]

section HiredSet

variable {s : State} {slot : Byte} {i : SetSlot} {r : SetRec} (hopen : s.portOpen = true)
  (hslot : slot.toNat = i.val + 1) (found : s.set? i = some r)
include hopen hslot found

/-! ## Report Run (R14, R15) -/

/-- A set that runs cannot start, and one that is stopped cannot stop (R14). -/
theorem execReportRun_state {report : Byte}
    (h : report.toNat = 1 ∧ r.running = true ∨ report.toNat = 0 ∧ r.running = false) :
    execReportRun slot report s = .next { s with sdo := .low, result := ⟨.state, []⟩ } := by
  refine serve_refused hopen ?_
  rcases h with ⟨code, running⟩ | ⟨code, running⟩
  · simp only [slotOperand_ok hslot, reportOperand_started code, hiredSet_some found, running, require_bind, ok_bind]
    rfl
  · simp only [slotOperand_ok hslot, reportOperand_stopped code, hiredSet_some found, running, require_bind, ok_bind]
    rfl

theorem execReportRun_starts {report : Byte} (code : report.toNat = 1) (stopped : r.running = false) :
    execReportRun slot report s = .next
      { ({ s with
            sets := s.sets.set i (some { r with running := true, timer := 0, expiring := false }) } : State).scan with
        sdo := .low, result := ⟨.ok, be 1 (i.val + 1) ++ be 1 1 ++ be 1 0 ++ be 2 0⟩ } := by
  rw [execReportRun]
  simp only [slotOperand_ok hslot, reportOperand_started code, hiredSet_some found, stopped, require_bind, ok_bind,
    State.updSet_eq found]
  exact serve_ok hopen

/-- A stop report evaluates the whole seconds of the timer, if there are any, then stops the set (R15). -/
theorem execReportRun_stops {report : Byte} (code : report.toNat = 0) (running : r.running = true) :
    execReportRun slot report s =
      let secs := r.timer / 1000
      let e : State × Nat := if secs = 0 then (s, 0) else s.evaluate i secs
      .next { (e.1.updSet i fun q => { q with running := false, timer := 0, expiring := false }).scan with
        sdo := .low, result := ⟨.ok, be 1 (i.val + 1) ++ be 1 0 ++ be 1 secs ++ be 2 e.2⟩ } := by
  rw [execReportRun]
  simp only [slotOperand_ok hslot, reportOperand_stopped code, hiredSet_some found, running, require_bind, ok_bind]
  exact serve_ok hopen

/-! ## Amend Set and Dip Set (R16 to R18) -/

/-- The record is written with reserve, limit and window clamped, and the entries' flags are raised. -/
theorem execAmendSet_writes {curve idle relief window : Byte} {reserve : BitVec 32} {limit : BitVec 16} {k : CurveNo}
    {a : AccountSlot} {rel : Option SetSlot} (hcurve : curve.toNat = k.val) (hidle : idle.toNat = a.val)
    (opened : (s.account? a).isSome = true) (hrelief : relief.toNat = slotCode rel) (other : rel ≠ some i)
    (hired : ∀ j, rel = some j → (s.set? j).isSome = true) :
    execAmendSet slot curve reserve limit idle relief window s =
      let q := r.amended k reserve.toNat limit.toNat a rel window.toNat
      .next { s.writeSet i r q with
        result := ⟨clampedIf (q.reserve != reserve.toNat || q.loadLimit != limit.toNat || q.window != window.toNat),
          byte (slotCode (some i)) ++ byte q.curve.val ++ be 4 q.reserve ++ be 2 q.loadLimit ++ byte q.idle.val
            ++ byte (slotCode q.relief) ++ byte q.window⟩
        sdo := .low } := by
  obtain ⟨x, opened⟩ := Option.isSome_iff_exists.mp opened
  have names : (rel.all fun j => (s.set? j).isSome) = true := by
    cases rel with
    | none => rfl
    | some j => exact hired j rfl
  have differs : (rel != some i) = true := by simpa using other
  rw [execAmendSet]
  simp only [slotOperand_ok hslot, hiredSet_some found, indexOperand_ok hcurve, indexOperand_ok hidle,
    openSlot_some opened, slotOrNoneOperand_ok hrelief, differs, names, require_bind, ok_bind, if_true]
  exact serve_ok hopen

/-- The tank estimate is written up to the capacity, and the entries' flags are raised (R18). -/
theorem execDipSet_writes (reading : BitVec 32) :
    execDipSet slot reading s =
      let q := r.dipped reading.toNat
      .next { s.writeSet i r q with
        result := ⟨clampedIf (decide (r.capacity < reading.toNat)),
          byte (slotCode (some i)) ++ be 3 q.tank ++ be 2 q.runtime⟩
        sdo := .low } := by
  rw [execDipSet]
  simp only [slotOperand_ok hslot, hiredSet_some found, ok_bind]
  exact serve_ok hopen

/-! ## Off-Hire Set (R21 to R23) -/

theorem execOffHireSet_noClock (invalid : s.clock.valid = false) : execOffHireSet slot s = s.refused .noClock := by
  refine serve_refused hopen ?_
  simp only [slotOperand_ok hslot, hiredSet_some found, invalid, require_bind, ok_bind]
  rfl

theorem execOffHireSet_state (valid : s.clock.valid = true) (running : r.running = true) :
    execOffHireSet slot s = s.refused .state := by
  refine serve_refused hopen ?_
  simp only [slotOperand_ok hslot, hiredSet_some found, valid, running, require_bind, ok_bind]
  rfl

theorem execOffHireSet_inUse (valid : s.clock.valid = true) (stopped : r.running = false)
    (named : (∃ ch d, (s.feeder ch).bound.get d = some i) ∨ ∃ p t, (s.position p).ticket = some t ∧ t.set = i) :
    execOffHireSet slot s = s.refused .inUse := by
  have unfree : (!s.setBound i && !s.setTicketed i) = false := by
    rw [Bool.and_eq_false_iff, Bool.not_eq_false', Bool.not_eq_false']
    rcases named with ⟨ch, d, bound⟩ | ⟨p, t, ticket, names⟩
    · exact .inl <| by_contra fun h => State.setBound_eq_false.mp (by simpa using h) ch d bound
    · exact .inr <| by_contra fun h => State.setTicketed_eq_false.mp (by simpa using h) p t ticket names
  refine serve_refused hopen ?_
  simp only [slotOperand_ok hslot, hiredSet_some found, valid, stopped, unfree, require_bind, ok_bind]
  rfl

/-- The statement is the result, and the slot is free with no relief field that names it (R22, R23). -/
theorem execOffHireSet_frees (valid : s.clock.valid = true) (stopped : r.running = false)
    (unnamed : ¬ ((∃ ch d, (s.feeder ch).bound.get d = some i) ∨ ∃ p t, (s.position p).ticket = some t ∧ t.set = i)) :
    execOffHireSet slot s = .next { s with
      sets := (s.sets.map (Option.map (·.withoutRelief i))).set i none
      result := ⟨.ok, r.offHireStatement i s.clock.minute⟩, sdo := .low } := by
  have unbound : s.setBound i = false := State.setBound_eq_false.mpr fun ch d h => unnamed (.inl ⟨ch, d, h⟩)
  have unticketed : s.setTicketed i = false :=
    State.setTicketed_eq_false.mpr fun p t h e => unnamed (.inr ⟨p, t, h, e⟩)
  rw [execOffHireSet]
  simp only [slotOperand_ok hslot, hiredSet_some found, valid, stopped, unbound, unticketed, require_bind, ok_bind]
  exact serve_ok hopen

end HiredSet

/-- Settles O25: each outcome of Report Run is one of the equations above. -/
theorem reportRunStartsAndStopsASet : Obligations.ReportRunStartsAndStopsASet := by
  intro s slot report i r hopen hslot found
  refine ⟨execReportRun_state hopen hslot found, fun unknown => ?_, execReportRun_starts hopen hslot found,
    execReportRun_stops hopen hslot found⟩
  refine serve_refused hopen ?_
  rw [slotOperand_ok hslot, ok_bind, reportOperand_range unknown, error_bind]

/-- The comparisons of Amend Set compare the three clamped values (R3, R17). -/
theorem amended_unchanged_iff (v l w v' l' w' : Nat) :
    (v != v' || l != l' || w != w') = false ↔ v = v' ∧ l = l' ∧ w = w' := by
  simp [and_assoc]

/-- Settles O26: the two writes, with the flags of the conditions they re-derive. -/
theorem amendAndDipWriteTheRecord : Obligations.AmendAndDipWriteTheRecord := by
  constructor
  · intro s slot curve idle relief window reserve limit i k a rel r hopen hslot found hcurve hidle opened hrelief
      other hired
    refine (execAmendSet_writes hopen hslot found hcurve hidle opened hrelief other hired).trans ?_
    dsimp only
    rw [State.writeSet_same s i (before := r) (after := r.amended k reserve.toNat limit.toNat a rel window.toNat) rfl,
      clampedIf_eq_ite (amended_unchanged_iff _ _ _ _ _ _)]
    simp only [SetRec.amended, SetRec.withReserveCond, SetRec.withOverloadCond, clampTo_eq (show 500 ≤ 1100 by decide),
      clampTo_eq (show 2 ≤ 240 by decide), Bool.and_not_self, State.raiseIf_false]
    rfl
  · intro s slot reading i r hopen hslot found
    refine (execDipSet_writes hopen hslot found reading).trans ?_
    dsimp only
    rw [State.writeSet_same s i (before := r) (after := r.dipped reading.toNat) rfl]
    simp only [clampedIf_decide, SetRec.dipped, SetRec.withRuntime, SetRec.withFuelConds, runtimeOf, Bool.and_not_self,
      State.raiseIf_false]
    rfl

/-- Settles O27: each outcome of Off-Hire Set is one of the equations above. -/
theorem offHireSetBuildsTheStatementAndFreesTheSlot : Obligations.OffHireSetBuildsTheStatementAndFreesTheSlot := by
  intro s slot i r hopen hslot found
  refine ⟨execOffHireSet_noClock hopen hslot found, execOffHireSet_state hopen hslot found,
    execOffHireSet_inUse hopen hslot found, fun valid stopped unnamed => ?_⟩
  refine (execOffHireSet_frees hopen hslot found valid stopped unnamed).trans ?_
  simp only [SetRec.withoutRelief_eq]
  rfl

/-! ## Cold start (R179) -/

/-- After cold start every account slot but the house account's is free (R145). -/
theorem State.account?_cold (x : Straps) (pins : Pins) (a : AccountSlot) :
    (State.cold x pins).account? a = if a = 0 then some (Account.fresh 0 [] 0) else none := by
  split
  · rename_i e; subst e; rfl
  · rename_i e
    have : 0 ≠ a.val := fun v => e (Fin.ext v.symm)
    simp [State.account?, State.cold, this]

/-- Settles O23: each record's value after cold start, read from its table. -/
theorem coldStartGivesEveryRecordItsFirstValue : Obligations.ColdStartGivesEveryRecordItsFirstValue := by
  intro s x pins
  have position (p : PositionNo) : (State.cold x pins).position p = ⟨.auto, 0, none⟩ := by
    simp [State.position, State.cold]
  refine ⟨_, rfl, rfl, rfl, rfl, rfl, rfl, fun i => ?_, fun c => ⟨?_, fun k => ?_⟩, fun ch => ?_, rfl, rfl, rfl, rfl,
    fun p => ⟨position p, ?_⟩, fun n => ?_,
    ⟨Account.fresh 0 [] 0, State.account?_cold x pins 0, rfl, rfl, rfl, rfl, rfl, rfl, rfl,
    rfl, rfl, rfl, fun b => ?_⟩, fun a other => ?_, fun b => ?_, rfl, fun h => ?_, rfl, rfl, rfl, rfl, rfl, rfl, rfl,
    rfl⟩
  · simp [State.set?, State.cold]
  · simp [State.cold]
  · simp [State.cold]
  · simp [State.feeder, State.cold, Feeder.cold]
  · exact congrArg Position.permitOn (position p)
  · simp [State.supplier, State.cold]
  · simp [Account.fresh]
  · exact (State.account?_cold x pins a).trans (if_neg other)
  · simp [State.cold]
  · simp [State.cold]

end Sys2Proof.Machine
end

section
/-! Operands that name nothing (R3, R5, R45, R123, R138, R145, R155): a check at the front of a command refuses
it, whatever the checks behind it are. -/

namespace Sys2Proof.Machine

/-! ## Which status an operand is refused with -/

/-- A check that can only fail with RANGE, in front of one that does, leaves RANGE the status. -/
theorem bind_range {α β : Type} {m : Except Status α} {f : α → Except Status β}
    (front : ∀ st, m = .error st → st = .range) (next : ∀ a, f a = .error .range) : (m >>= f) = .error .range := by
  cases m with
  | error st => rw [error_bind, front st rfl]
  | ok a => rw [ok_bind, next a]

theorem indexOperand_only_range {n : Nat} {b : Byte} (st : Status) (h : indexOperand n b = .error st) :
    st = .range := by
  unfold indexOperand at h
  split at h <;> cases h
  rfl

theorem slotOperand_only_range {b : Byte} (st : Status) (h : slotOperand b = .error st) : st = .range := by
  unfold slotOperand at h
  split at h <;> cases h
  rfl

section Front

variable {s : State} {b : Byte} (hopen : s.portOpen = true)
include hopen

theorem serve_index_range {n : Nat} {f : Fin n → Except Status Reply} (h : n ≤ b.toNat) :
    serve s (indexOperand n b >>= f) = s.refused .range :=
  serve_refused hopen (by rw [indexOperand_range h, error_bind])

theorem serve_slot_range {f : SetSlot → Except Status Reply} (h : b.toNat = 0 ∨ 24 < b.toNat) :
    serve s (slotOperand b >>= f) = s.refused .range :=
  serve_refused hopen (by rw [slotOperand_range h, error_bind])

theorem serve_slot_free {f : SetSlot → SetRec → Except Status Reply} {i : SetSlot} (h : b.toNat = i.val + 1)
    (free : s.set? i = none) : serve s (slotOperand b >>= fun j => hiredSet s j >>= f j) = s.refused .noRecord :=
  serve_refused hopen (by rw [slotOperand_ok h, ok_bind, hiredSet_none free, error_bind])

theorem serve_channel_range {f : Channel → Except Status Reply} (h : 16 ≤ b.toNat) :
    serve s (channelOperand s b >>= f) = s.refused .range :=
  serve_refused hopen (by rw [channelOperand, indexOperand_range h, error_bind, error_bind])

theorem serve_channel_inactive {f : Channel → Except Status Reply} {ch : Channel} (h : b.toNat = ch.val)
    (inactive : s.active ch = false) : serve s (channelOperand s b >>= f) = s.refused .noRecord :=
  serve_refused hopen (by
    rw [channelOperand, indexOperand_ok h, ok_bind, inactive, require_false, error_bind, error_bind])

theorem serve_account_closed {f : AccountSlot → Account → Except Status Reply} {a : AccountSlot}
    (h : b.toNat = a.val) (closed : s.account? a = none) :
    serve s (indexOperand 64 b >>= fun c => openSlot s c >>= f c) = s.refused .noRecord :=
  serve_refused hopen (by rw [indexOperand_ok h, ok_bind, openSlot_none closed, error_bind])

/-! ## The commands with a check behind another one -/

/-- RANGE of the report comes before NO_RECORD of the slot (R14). -/
theorem execReportRun_free {report : Byte} {i : SetSlot} (h : b.toNat = i.val + 1) (free : s.set? i = none)
    (known : report.toNat ≤ 1) : execReportRun b report s = s.refused .noRecord := by
  have reads : ∃ started, reportOperand report = .ok started := by
    rcases Nat.le_one_iff_eq_zero_or_eq_one.mp known with zero | one
    · exact ⟨false, reportOperand_stopped zero⟩
    · exact ⟨true, reportOperand_started one⟩
  obtain ⟨started, reads⟩ := reads
  exact serve_refused hopen (by
    rw [slotOperand_ok h, ok_bind, reads, ok_bind, hiredSet_none free, error_bind])

theorem execRetireAccount_closed {a : AccountSlot} (h : b.toNat = a.val) (other : a ≠ 0)
    (closed : s.account? a = none) : execRetireAccount b s = s.refused .noRecord := by
  have named : (a.val != 0) = true := bne_iff_ne.mpr fun e => other (Fin.ext e)
  exact serve_refused hopen (by
    rw [indexOperand_ok h, ok_bind, named, require_true, ok_bind, openSlot_none closed, error_bind])

theorem execBindSide_side {side slot : Byte} (h : 2 ≤ side.toNat) :
    execBindSide b side slot s = s.refused .range :=
  serve_refused hopen <| bind_range indexOperand_only_range fun _ => by rw [sideOperand_range h, error_bind]

theorem execEnqueueOrder_side {side : Byte} {first last : BitVec 24} (h : 2 ≤ side.toNat) :
    execEnqueueOrder b side first last s = s.refused .range :=
  serve_refused hopen <| bind_range indexOperand_only_range fun _ => by rw [sideOperand_range h, error_bind]

theorem execSetScheduleSlot_band {band : Byte} (h : 4 ≤ band.toNat) :
    execSetScheduleSlot b band s = s.refused .range :=
  serve_refused hopen <| bind_range indexOperand_only_range fun _ => by rw [indexOperand_range h, error_bind]

theorem execAssignFeederAccount_account {account : Byte} (h : 64 ≤ account.toNat) :
    execAssignFeederAccount b account s = s.refused .range :=
  serve_refused hopen <| bind_range indexOperand_only_range fun _ => by rw [indexOperand_range h, error_bind]

/-- Open Ticket reads its position, slot and supplier before it looks at any record (R126). -/
theorem execOpenTicket_range {slot supplier : Byte} {ordered : BitVec 32}
    (h : 4 ≤ b.toNat ∨ slot.toNat = 0 ∨ 24 < slot.toNat ∨ 4 ≤ supplier.toNat) :
    execOpenTicket b slot supplier ordered s = s.refused .range := by
  by_cases position : 4 ≤ b.toNat
  · exact serve_index_range hopen position
  · refine serve_refused hopen (bind_range indexOperand_only_range fun p => ?_)
    by_cases outside : slot.toNat = 0 ∨ 24 < slot.toNat
    · rw [slotOperand_range outside, error_bind]
    · refine bind_range slotOperand_only_range fun i => ?_
      rw [indexOperand_range (by omega), error_bind]

/-! ## Amend Set of a hired set (R16) -/

variable {x y z w : Byte} {v : BitVec 32} {l : BitVec 16} {i : SetSlot} (hslot : b.toNat = i.val + 1)
  (hired : (s.set? i).isSome = true)
include hslot hired

theorem execAmendSet_curve (h : 6 ≤ x.toNat) : execAmendSet b x v l y z w s = s.refused .range := by
  obtain ⟨r, found⟩ := Option.isSome_iff_exists.mp hired
  exact serve_refused hopen (by
    rw [slotOperand_ok hslot, ok_bind, hiredSet_some found, ok_bind, indexOperand_range h, error_bind])

section Curve

variable (hcurve : x.toNat < 6)
include hcurve

theorem execAmendSet_idle (h : 64 ≤ y.toNat) : execAmendSet b x v l y z w s = s.refused .range := by
  obtain ⟨r, found⟩ := Option.isSome_iff_exists.mp hired
  exact serve_refused hopen (by
    rw [slotOperand_ok hslot, ok_bind, hiredSet_some found, ok_bind, indexOperand_ok (i := ⟨x.toNat, hcurve⟩) rfl,
      ok_bind, indexOperand_range h, error_bind])

variable {a : AccountSlot} (hidle : y.toNat = a.val)
include hidle

theorem execAmendSet_closed (closed : s.account? a = none) : execAmendSet b x v l y z w s = s.refused .noRecord := by
  obtain ⟨r, found⟩ := Option.isSome_iff_exists.mp hired
  exact serve_refused hopen (by
    rw [slotOperand_ok hslot, ok_bind, hiredSet_some found, ok_bind, indexOperand_ok (i := ⟨x.toNat, hcurve⟩) rfl,
      ok_bind, indexOperand_ok hidle, ok_bind, openSlot_none closed, error_bind])

/-- With slot, curve and idle account in order, Amend Set answers what its relief checks do. -/
theorem execAmendSet_relief (opened : (s.account? a).isSome = true) {st : Status}
    (refuses : ∀ f : Option SetSlot → Except Status Reply, (slotOrNoneOperand z >>= fun rel =>
      require (rel != some i) .range >>= fun _ =>
      require (rel.all fun j => (s.set? j).isSome) .noRecord >>= fun _ => f rel) = .error st) :
    execAmendSet b x v l y z w s = s.refused st := by
  obtain ⟨r, found⟩ := Option.isSome_iff_exists.mp hired
  obtain ⟨q, account⟩ := Option.isSome_iff_exists.mp opened
  exact serve_refused hopen (by
    rw [slotOperand_ok hslot, ok_bind, hiredSet_some found, ok_bind, indexOperand_ok (i := ⟨x.toNat, hcurve⟩) rfl,
      ok_bind, indexOperand_ok hidle, ok_bind, openSlot_some account, ok_bind]
    exact refuses _)

theorem execAmendSet_reliefRange (opened : (s.account? a).isSome = true) (h : 24 < z.toNat ∨ z.toNat = i.val + 1) :
    execAmendSet b x v l y z w s = s.refused .range := by
  refine execAmendSet_relief hopen hslot hired hcurve hidle opened fun f => ?_
  rcases h with outside | itself
  · rw [slotOrNoneOperand_range outside, error_bind]
  · rw [slotOrNoneOperand_ok (x := some i) itself, ok_bind, bne_self_eq_false, require_false, error_bind]

theorem execAmendSet_reliefFree (opened : (s.account? a).isSome = true) {j : SetSlot} (h : z.toNat = j.val + 1)
    (other : j ≠ i) (free : s.set? j = none) : execAmendSet b x v l y z w s = s.refused .noRecord := by
  refine execAmendSet_relief hopen hslot hired hcurve hidle opened fun f => ?_
  have differs : (some j != some i) = true := by simpa using other
  rw [slotOrNoneOperand_ok (x := some j) h, ok_bind, differs, require_true, ok_bind, Option.all_some, free,
    Option.isSome_none, require_false, error_bind]

end Curve

end Front

/-- Settles O12: each refusal is that of the check at the front of its command. -/
theorem operandsThatNameNothingAreRefused : Obligations.OperandsThatNameNothingAreRefused := by
  intro s b x y z w hopen
  refine ⟨fun h => ?slotRange, fun i h free => ?slotFree, fun i v l h hired => ?amend, fun h => ?channelRange,
    fun h => ?sideRange, fun ch h inactive => ?channelInactive, fun h => ?fourRange, fun h q => ?ticket,
    fun h => ?curve, fun h => serve_index_range hopen h, fun h => ?accountRange, fun a h closed => ?accountClosed⟩
  case slotRange =>
    exact ⟨fun _ => serve_slot_range hopen h, serve_slot_range hopen h, fun _ _ => serve_slot_range hopen h,
      fun _ => serve_slot_range hopen h, serve_slot_range hopen h⟩
  case slotFree =>
    exact ⟨fun _ => serve_slot_free hopen h free, execReportRun_free hopen h free,
      fun _ _ => serve_slot_free hopen h free, fun _ => serve_slot_free hopen h free, serve_slot_free hopen h free⟩
  case amend =>
    exact ⟨execAmendSet_curve hopen h hired, execAmendSet_idle hopen h hired, fun a hcurve hidle =>
      ⟨execAmendSet_closed hopen h hired hcurve hidle, fun opened =>
        ⟨execAmendSet_reliefRange hopen h hired hcurve hidle opened, fun j hrelief other free =>
          execAmendSet_reliefFree hopen h hired hcurve hidle opened hrelief other free⟩⟩⟩
  case channelRange =>
    exact ⟨fun _ => serve_index_range hopen h, fun _ => serve_index_range hopen h, serve_index_range hopen h,
      serve_channel_range hopen h, serve_channel_range hopen h, serve_channel_range hopen h,
      fun _ _ => serve_index_range hopen h, serve_channel_range hopen h⟩
  case sideRange => exact ⟨fun _ => execBindSide_side hopen h, fun _ _ => execEnqueueOrder_side hopen h⟩
  case channelInactive =>
    exact ⟨serve_channel_inactive hopen h inactive, serve_channel_inactive hopen h inactive,
      serve_channel_inactive hopen h inactive, serve_channel_inactive hopen h inactive⟩
  case fourRange =>
    exact ⟨serve_index_range hopen h, serve_index_range hopen h, serve_index_range hopen h,
      fun _ => serve_index_range hopen h, serve_index_range hopen h, fun _ => serve_index_range hopen h,
      fun _ => serve_index_range hopen h, execSetScheduleSlot_band hopen h⟩
  case ticket => exact execOpenTicket_range hopen h
  case curve => exact ⟨serve_index_range hopen h, serve_index_range hopen h⟩
  case accountRange =>
    exact ⟨serve_index_range hopen h, serve_index_range hopen h, serve_index_range hopen h,
      serve_index_range hopen h, serve_index_range hopen h, serve_index_range hopen h,
      execAssignFeederAccount_account hopen h⟩
  case accountClosed =>
    exact ⟨serve_account_closed hopen h closed, serve_account_closed hopen h closed,
      serve_account_closed hopen h closed, serve_account_closed hopen h closed,
      fun other => execRetireAccount_closed hopen h other closed, serve_account_closed hopen h closed⟩

end Sys2Proof.Machine
end

section
/-! Readouts as layouts (R1, R189): a result is a row of figures, each of its width, and the table of places
that stands beside it holds. -/

namespace Sys2Proof.Machine

/-! ## Layouts -/

/-- The bytes of a row of figures, each (bytes, figure), most-significant byte first (R1). -/
def layout (row : List (Nat × Nat)) : List Byte := row.flatMap fun x => be x.1 x.2

/-- The table (first byte, bytes, figure) of a row that begins at a byte. -/
def placesFrom : Nat → List (Nat × Nat) → List (Nat × Nat × Nat)
  | _, [] => []
  | off, x :: row => (off, x.1, x.2) :: placesFrom (off + x.1) row

theorem layout_cons (x : Nat × Nat) (row : List (Nat × Nat)) : layout (x :: row) = be x.1 x.2 ++ layout row := rfl

theorem layout_append (front row : List (Nat × Nat)) : layout (front ++ row) = layout front ++ layout row :=
  List.flatMap_append

theorem layout_length (row : List (Nat × Nat)) : (layout row).length = (row.map (·.1)).sum := by
  simp [layout, List.length_flatMap]

theorem placesFrom_append (off : Nat) (front row : List (Nat × Nat)) :
    placesFrom off (front ++ row) = placesFrom off front ++ placesFrom (off + (front.map (·.1)).sum) row := by
  induction front generalizing off with
  | nil => rfl
  | cons x front ih => simp [placesFrom, ih, Nat.add_assoc]

/-- Figures of one width stand at even distances. -/
theorem placesFrom_map (off width : Nat) (figures : List Nat) :
    placesFrom off (figures.map fun v => (width, v))
      = (List.range figures.length).map fun k => (off + width * k, width, figures.getD k 0) := by
  induction figures generalizing off with
  | nil => rfl
  | cons v figures ih =>
    simp [placesFrom, ih, List.range_succ_eq_map, Nat.mul_add, Nat.add_assoc, Nat.add_comm width]

/-- Each figure of a row stands at its place (R1, R189). -/
theorem fieldAt_layout (front : List Byte) (row : List (Nat × Nat)) :
    ∀ x ∈ placesFrom front.length row, fieldAt (front ++ layout row) x.1 x.2.1 = x.2.2 % 256 ^ x.2.1 := by
  induction row generalizing front with
  | nil => simp [placesFrom]
  | cons y row ih =>
    intro x hx
    rcases List.mem_cons.mp hx with rfl | later
    · exact (fieldAt_append front _ 0 _).trans (fieldAt_be _ _ _)
    · have moved := ih (front ++ be y.1 y.2) x (by rwa [List.length_append, be_length])
      rwa [List.append_assoc] at moved

/-- A command that answers a row of figures and keeps the state reads them at their places. -/
theorem State.Reads.ofLayout {s : State} {c : Instr} {body : Except Status Reply} {n : Nat}
    {table : List (Nat × Nat × Nat)} (row : List (Nat × Nat)) (hopen : s.portOpen = true)
    (runs : exec c s = serve s body) (answers : body = .ok ⟨.ok, layout row, s⟩) (length : (row.map (·.1)).sum = n)
    (places : placesFrom 0 row = table) : s.Reads c n table :=
  ⟨layout row, by rw [runs, answers]; exact serve_ok hopen, (layout_length row).trans length,
    places ▸ fieldAt_layout [] row⟩

/-! ## Query Set (R13, R190, R191) -/

/-- One carried entry of the energy view: its account and its energy, 00h for an unused one. -/
def carriedRow (l : List (AccountSlot × Nat)) (k : Nat) : List (Nat × Nat) :=
  [(1, (l.map (·.1.val)).getD k 0), (4, (l.map (·.2)).getD k 0)]

/-- The carried entries fill five bytes each, unused ones 00h (R189, R191). -/
theorem carriedRows_eq (n : Nat) (l : List (AccountSlot × Nat)) :
    ((l.flatMap fun (p : AccountSlot × Nat) => byte p.1.val ++ be 4 p.2) ++ List.replicate (5 * n) 0).take (5 * n)
      = layout ((List.range n).flatMap (carriedRow l)) := by
  induction n generalizing l with
  | zero => rfl
  | succ n ih =>
    have rest (l : List (AccountSlot × Nat)) (p : AccountSlot × Nat) :
        ((List.range n).map Nat.succ).flatMap (carriedRow (p :: l)) = (List.range n).flatMap (carriedRow l) := by
      rw [List.flatMap_map]; rfl
    have unused : ((List.range n).map Nat.succ).flatMap (carriedRow []) = (List.range n).flatMap (carriedRow []) := by
      rw [List.flatMap_map]; rfl
    rw [List.range_succ_eq_map, List.flatMap_cons, layout_append]
    cases l with
    | nil =>
      rw [unused, ← ih, List.flatMap_nil, List.nil_append, List.nil_append, List.take_replicate, List.take_replicate,
        Nat.min_self, Nat.min_self, Nat.mul_succ, Nat.add_comm, List.replicate_add]
      rfl
    | cons p l =>
      have front : layout (carriedRow (p :: l) 0) = byte p.1.val ++ be 4 p.2 := by
        simp [layout, carriedRow, byte_eq_be]
      have enough : 5 * n ≤ ((l.flatMap fun (q : AccountSlot × Nat) => byte q.1.val ++ be 4 q.2)
          ++ List.replicate (5 * n) (0 : Byte)).length := by simp
      have cut (later : List Byte) : (byte p.1.val ++ be 4 p.2 ++ later).take (5 + 5 * n)
          = byte p.1.val ++ be 4 p.2 ++ later.take (5 * n) :=
        List.take_length_add_append (l₁ := byte p.1.val ++ be 4 p.2) _
      rw [rest, ← ih, front, List.flatMap_cons, List.append_assoc, Nat.mul_succ, Nat.add_comm _ 5, cut, Nat.add_comm 5,
        List.replicate_add, ← List.append_assoc (List.flatMap _ l), List.take_append_of_le_length enough]

/-- The row of figures of the running view (R191). -/
def State.runningRow (s : State) (i : SetSlot) (r : SetRec) : List (Nat × Nat) :=
  [(1, i.val + 1), (4, r.unit.toNat), (2, r.rating), (3, r.capacity),
   (1, r.curve.val), (2, r.minHire), (3, r.dayRate), (3, r.hireStart),
   (3, r.reserve), (2, r.loadLimit), (1, r.idle.val),
   (1, (r.relief.map (·.val + 1)).getD 0), (1, r.window),
   (1, r.running.toNat + 16 * r.conds.reserve.toNat + 32 * r.conds.dry.toNat
     + 64 * r.conds.overload.toNat + 128 * r.conds.uncosted.toNat),
   (2, r.timer), (3, r.tank), (2, r.remainder), (3, r.rate), (2, r.load),
   (2, r.runtime), (4, min 4294967295 (s.committed i)),
   (4, signedField 4 (max (-2147483648) (s.headroom i r)))]

theorem runningView_eq (s : State) (i : SetSlot) (r : SetRec) : s.runningView i r = layout (s.runningRow i r) := by
  have relief : slotCode r.relief = (r.relief.map (·.val + 1)).getD 0 := by cases r.relief <;> rfl
  have own : slotCode (some i) = i.val + 1 := rfl
  unfold State.runningView
  simp only [State.runningRow, layout, List.flatMap_cons, List.flatMap_nil, List.append_nil, List.append_assoc,
    byte_eq_be, relief, own,
    SetRec.condsByte, beInt, signedField, max32]

/-- The row of figures of the energy view (R191). -/
def SetRec.energyRow (r : SetRec) (i : SetSlot) : List (Nat × Nat) :=
  [(1, i.val + 1), (1, r.carried.length)] ++ (List.range 4).flatMap (carriedRow r.carried)
    ++ [(4, r.overflow), (4, r.runSeconds), (4, r.burned), (4, r.credited), (4, r.overfill), (2, r.dryCount)]

theorem energyView_eq (r : SetRec) (i : SetSlot) : r.energyView i = layout (r.energyRow i) := by
  rw [SetRec.energyRow, layout_append, layout_append, ← carriedRows_eq]
  simp only [layout, List.flatMap_cons, List.flatMap_nil, List.append_nil, SetRec.energyView, List.append_assoc,
    byte_eq_be, slotCode, carriedBytes]

/-! ## Find Set (R12) -/

theorem State.slotOfUnit_eq_some {s : State} {unit : BitVec 32} {i : SetSlot} {r : SetRec}
    (found : s.set? i = some r) (carries : r.unit = unit)
    (only : ∀ j q, s.set? j = some q → q.unit = unit → j = i) : s.slotOfUnit unit = some i := by
  cases e : s.slotOfUnit unit with
  | none => exact absurd carries (State.slotOfUnit_eq_none.mp e i r found)
  | some j =>
    have holds := List.find?_some e
    cases hj : s.set? j with
    | none => simp [hj] at holds
    | some q => rw [only j q hj (by simpa [hj] using holds)]

/-! ## Query Curve (R29, R192) -/

/-- The points staged for a curve; none while no staging is open for it (R25, R29). -/
def State.stagedFor (s : State) (c : CurveNo) : List Nat :=
  match s.staging with
  | some g => if g.curve = c then g.points else []
  | none => []

theorem State.stagingFor_getD (s : State) (c : CurveNo) : (s.stagingFor c).getD [] = s.stagedFor c := by
  unfold State.stagingFor State.stagedFor
  cases s.staging with
  | none => rfl
  | some g => dsimp only; split <;> rfl

theorem State.stagingFor_isSome (s : State) (c : CurveNo) :
    (s.stagingFor c).isSome = (s.staging.map (·.curve) == some c) := by
  unfold State.stagingFor
  split
  · split <;> simp_all
  · simp_all

/-- The eleven points of a curve, in threes of bytes from byte 1 on (R192). -/
theorem placesFrom_points (points : Vector Nat 11) :
    placesFrom 1 (points.toList.map fun v => (3, v))
      = (List.finRange 11).map fun k => (1 + 3 * k.val, 3, points[k]) := by
  rw [placesFrom_map]
  refine List.ext_getElem (by simp) fun k hk _ => ?_
  have bound : k < 11 := by simpa using hk
  simp [List.getD_eq_getElem?_getD, bound]

/-- The row Query Curve answers: its byte of bits, the points and the points staged. -/
def State.curveRow (s : State) (c : CurveNo) : List (Nat × Nat) :=
  [(1, (s.curves[c]).complete.toNat + 2 * (s.staging.map (·.curve) == some c).toNat
      + 16 * (s.stagedFor c).length)]
    ++ (s.curves[c]).points.toList.map (fun v => (3, v)) ++ (s.stagedFor c).map (fun v => (3, v))

theorem layout_map (width : Nat) (figures : List Nat) :
    layout (figures.map fun v => (width, v)) = figures.flatMap (be width) := by
  rw [layout, List.flatMap_map]

theorem layout_curveRow (s : State) (c : CurveNo) : layout (s.curveRow c) =
    byte ((s.curves[c]).complete.toNat + 2 * (s.stagingFor c).isSome.toNat + 16 * ((s.stagingFor c).getD []).length)
      ++ (s.curves[c]).points.toList.flatMap (be 3) ++ ((s.stagingFor c).getD []).flatMap (be 3) := by
  rw [State.curveRow, layout_append, layout_append, layout_map, layout_map, State.stagingFor_getD,
    State.stagingFor_isSome]
  rfl

theorem sum_widths_map (width : Nat) (figures : List Nat) :
    ((figures.map fun v => (width, v)).map (·.1)).sum = width * figures.length := by
  simp [Function.comp_def, Nat.mul_comm]

theorem execQueryCurve_reads {s : State} {b : Byte} {c : CurveNo} (hopen : s.portOpen = true)
    (hcurve : b.toNat = c.val) : s.Reads (.queryCurve b) (34 + 3 * (s.stagedFor c).length)
      ([(0, 1, (s.curves[c]).complete.toNat + 2 * (s.staging.map (·.curve) == some c).toNat
          + 16 * (s.stagedFor c).length)]
        ++ (List.finRange 11).map (fun k => (1 + 3 * k.val, 3, (s.curves[c]).points[k]))
        ++ (List.range (s.stagedFor c).length).map (fun k => (34 + 3 * k, 3, (s.stagedFor c).getD k 0))) := by
  refine .ofLayout (s.curveRow c) hopen rfl ?_ ?_ ?_
  · rw [indexOperand_ok hcurve, ok_bind, layout_curveRow]
  · simp only [State.curveRow, List.map_append, List.sum_append, sum_widths_map, Vector.length_toList]
    rfl
  · have widths : ((s.curves[c]).points.toList.map fun v => (3, v)).map (·.1) = List.replicate 11 3 := by simp
    rw [State.curveRow, placesFrom_append, placesFrom_append, placesFrom_map _ _ (s.stagedFor c)]
    simp only [List.map_append, List.sum_append, sum_widths_map, Vector.length_toList]
    exact congrArg (_ :: · ++ _) (placesFrom_points _)

/-- Settles O14: each readout is a row of figures, and the row gives the table of places. -/
theorem setAndCurveReadouts : Obligations.SetAndCurveReadouts := by
  intro s hopen
  refine ⟨fun b i r view hslot found => ⟨fun running => ?running, fun energy => ?energy, fun neither => ?neither⟩,
    fun unit i r found carries only => ?found, fun unit unknown => ?unknown, fun b c hcurve => ?curve⟩
  case running =>
    refine .ofLayout (s.runningRow i r) hopen rfl ?_ (by simp [State.runningRow]) rfl
    simp only [slotOperand_ok hslot, hiredSet_some found, running, runningView_eq, require_bind, ok_bind]
    rfl
  case energy =>
    refine .ofLayout (r.energyRow i) hopen rfl ?_ (by simp [SetRec.energyRow, carriedRow, List.range_succ]) rfl
    simp only [slotOperand_ok hslot, hiredSet_some found, energy, energyView_eq, require_bind, ok_bind]
    rfl
  case neither =>
    refine serve_refused hopen ?_
    have outside : decide ((view.getD 0).toNat ≤ 1) = false := decide_eq_false (by omega)
    simp only [slotOperand_ok hslot, hiredSet_some found, outside, require_false, ok_bind, error_bind]
  case found =>
    refine .ofLayout [(1, i.val + 1)] hopen rfl ?_ rfl rfl
    rw [State.slotOfUnit_eq_some found carries only]
    rfl
  case unknown =>
    refine serve_refused hopen ?_
    rw [State.slotOfUnit_eq_none.mpr unknown]
  case curve => exact execQueryCurve_reads hopen hcurve

end Sys2Proof.Machine
end

section
/-! The idle step (R167): which expiries are due, and what one millisecond moves. -/

namespace Sys2Proof.Machine

/-! ## The expiries that are due -/

/-- The monitor watches just the feeders of R62. -/
theorem Feeder.watched_iff (f : Feeder) : f.watched = true ↔ f.isWatched := by
  unfold Feeder.watched Feeder.isWatched
  cases f.state with
  | on d => cases d <;> simp
  | _ => simp

theorem State.disagrees_iff (s : State) (ch : Channel) (d : Side) : s.disagrees ch d = true ↔
    s.active ch = true ∧ (s.feeder ch).isWatched ∧ (s.feeder ch).drive.get d ≠ s.fbClosed ch d := by
  simp [State.disagrees, Feeder.watched_iff, and_assoc]

theorem State.watchDue_iff (s : State) (ch : Channel) (d : Side) : s.watchDue ch d = true ↔
    s.active ch = true ∧ (s.feeder ch).isWatched ∧ (s.feeder ch).drive.get d ≠ s.fbClosed ch d
      ∧ ∃ ms, (s.feeder ch).watch.get d = some ms ∧ s.params.closeTimeout < ms := by
  rw [State.watchDue, Bool.and_eq_true, State.disagrees_iff]
  cases (s.feeder ch).watch.get d <;> simp [and_assoc]

/-- The expiry of a transfer by its phase (R106). -/
def Transfer.expiry (t : Transfer) : Instr :=
  match t.phase with
  | .opening => .openTimeout
  | .dead => .deadTimeExpiry
  | .closing => if t.releasing then .releaseDeadline else .closeTimeout
  | .fallback => .fallbackTimeout

theorem State.deadlineDue_eq_some {s : State} {t : Transfer} : s.deadlineDue = some t ↔
    s.transfer = some t ∧ s.pins.resetN = true ∧ t.deadline = 0 := by
  unfold State.deadlineDue
  cases s.transfer with
  | none => simp
  | some u =>
    simp only [Bool.and_eq_true, beq_iff_eq, Option.ite_none_right_eq_some, Option.some.injEq]
    constructor
    · rintro ⟨due, rfl⟩
      exact ⟨rfl, due⟩
    · rintro ⟨rfl, due⟩
      exact ⟨due, rfl⟩

theorem State.dueDeadline_eq (s : State) : s.dueDeadline = s.deadlineDue.toList.map Transfer.expiry := by
  unfold State.dueDeadline
  cases s.deadlineDue with
  | none => rfl
  | some t =>
    cases phase : t.phase with
    | closing => cases releasing : t.releasing <;> simp [Transfer.expiry, phase, releasing]
    | _ => simp [Transfer.expiry, phase]

theorem State.mem_dueDeadline {s : State} {c : Instr} : c ∈ s.dueDeadline ↔
    ∃ t, s.transfer = some t ∧ s.pins.resetN = true ∧ t.deadline = 0 ∧ t.expiry = c := by
  simp [State.dueDeadline_eq, State.deadlineDue_eq_some, and_assoc]

theorem Transfer.expiry_eq_iff (t : Transfer) (c : Instr) : t.expiry = c ↔
    match c with
    | .openTimeout => t.phase = .opening
    | .deadTimeExpiry => t.phase = .dead
    | .closeTimeout => t.phase = .closing ∧ t.releasing = false
    | .releaseDeadline => t.phase = .closing ∧ t.releasing = true
    | .fallbackTimeout => t.phase = .fallback
    | _ => False := by
  constructor
  · rintro rfl
    cases phase : t.phase with
    | closing => cases releasing : t.releasing <;> simp [Transfer.expiry, phase, releasing]
    | _ => simp [Transfer.expiry, phase]
  · intro h
    split at h
    case h_6 => exact h.elim
    all_goals simp [Transfer.expiry, h]

theorem State.secondDue_iff (s : State) : s.secondDue = true ↔ s.clock.valid = true ∧ 1000 ≤ s.clock.millis := by
  simp [State.secondDue]

theorem State.resumeDue_iff (s : State) : s.resumeDue = true ↔ ∃ ms, s.mode = .resuming ms ∧ 2000 ≤ ms := by
  unfold State.resumeDue
  cases s.mode <;> simp

theorem State.mem_dueIntervals {s : State} {c : Instr} : c ∈ s.dueIntervals ↔
    ∃ i r, c = .intervalExpiry i ∧ s.set? i = some r ∧ r.running = true ∧ r.expiring = true := by
  simp only [State.dueIntervals, List.mem_map, List.mem_filter, mem_slots, true_and]
  refine exists_congr fun i => ?_
  cases s.set? i with
  | none => simp
  | some r =>
    simp only [Bool.and_eq_true, Option.some.injEq]
    constructor
    · rintro ⟨due, rfl⟩
      exact ⟨r, rfl, rfl, due⟩
    · rintro ⟨_, rfl, rfl, due⟩
      exact ⟨due, rfl⟩

/-- The expiries of one feeder (R59, R62). -/
def State.feederWatches (s : State) (ch : Channel) : List Instr :=
  (if s.watchDue ch .A then [.disagreementTimerExpiry ch .A] else []) ++
    (if s.watchDue ch .B then [.disagreementTimerExpiry ch .B] else []) ++
    (if s.active ch && (s.feeder ch).openCheck == some 0 then [.openCheckDeadline ch] else [])

theorem State.mem_feederWatches {s : State} {ch : Channel} {c : Instr} : c ∈ s.feederWatches ch ↔
    (∃ d, c = .disagreementTimerExpiry ch d ∧ s.watchDue ch d = true)
      ∨ c = .openCheckDeadline ch ∧ s.active ch = true ∧ (s.feeder ch).openCheck = some 0 := by
  have sides (P : Side → Prop) : (∃ d, P d) ↔ P .A ∨ P .B :=
    ⟨fun ⟨d, h⟩ => by cases d <;> simp [h], fun h => h.elim (fun h => ⟨_, h⟩) fun h => ⟨_, h⟩⟩
  simp [State.feederWatches, sides, and_comm, or_assoc]

theorem State.mem_dueWatches {s : State} {c : Instr} :
    c ∈ s.dueWatches ↔ ∃ ch, c ∈ s.feederWatches ch := by
  simp only [State.dueWatches, List.mem_flatMap, mem_channels, true_and]
  rfl

theorem State.mem_dueEvents {s : State} {c : Instr} : c ∈ s.dueEvents ↔
    c ∈ s.dueDeadline ∨ c ∈ s.dueIntervals ∨ c ∈ s.dueWatches ∨ c = .siteSecondAdvance ∧ s.secondDue = true
      ∨ c = .resumeTimerExpiry ∧ s.resumeDue = true := by
  simp [State.dueEvents, and_comm]

/-! ## No expiry is listed twice -/

theorem State.feederWatches_nodup (s : State) (ch : Channel) : (s.feederWatches ch).Nodup := by
  unfold State.feederWatches
  split <;> split <;> split <;> simp

theorem State.feederWatches_channel {s : State} {ch other : Channel} {c : Instr} (here : c ∈ s.feederWatches ch)
    (there : c ∈ s.feederWatches other) : ch = other := by
  rcases State.mem_feederWatches.mp here with ⟨d, rfl, _⟩ | ⟨rfl, _⟩
  · rcases State.mem_feederWatches.mp there with ⟨e, same, _⟩ | ⟨same, _⟩ <;> cases same
    rfl
  · rcases State.mem_feederWatches.mp there with ⟨e, same, _⟩ | ⟨same, _⟩ <;> cases same
    rfl

theorem State.dueWatches_nodup (s : State) : s.dueWatches.Nodup :=
  List.nodup_flatMap.mpr ⟨fun ch _ => s.feederWatches_nodup ch, channels_nodup.imp fun differ _ here there =>
    differ (State.feederWatches_channel here there)⟩

theorem State.dueIntervals_nodup (s : State) : s.dueIntervals.Nodup :=
  (List.Nodup.filter _ (by decide : slots.Nodup)).map fun _ _ h => Instr.intervalExpiry.inj h

/-- The part of the list of due expiries that an expiry stands in. -/
def expiryPart : Instr → Nat
  | .intervalExpiry _ => 1
  | .disagreementTimerExpiry _ _ => 2
  | .openCheckDeadline _ => 2
  | .siteSecondAdvance => 3
  | .resumeTimerExpiry => 4
  | _ => 0

/-- Lists of expiries without repetition, one of earlier parts and one of the next part. -/
theorem nodup_append_part {l m : List Instr} (n : Nat) (first : l.Nodup ∧ ∀ c ∈ l, expiryPart c < n)
    (next : m.Nodup ∧ ∀ c ∈ m, expiryPart c = n) : (l ++ m).Nodup ∧ ∀ c ∈ l ++ m, expiryPart c < n + 1 := by
  refine ⟨List.nodup_append'.mpr ⟨first.1, next.1, fun c here there => ?_⟩, fun c hc => ?_⟩
  · exact absurd (next.2 c there) (Nat.ne_of_lt (first.2 c here))
  · rcases List.mem_append.mp hc with here | there
    · exact Nat.lt_succ_of_lt (first.2 c here)
    · exact Nat.lt_succ_of_le (Nat.le_of_eq (next.2 c there))

theorem Transfer.expiry_part (t : Transfer) : expiryPart t.expiry = 0 := by
  unfold Transfer.expiry
  cases t.phase with
  | closing => dsimp only; split <;> rfl
  | _ => rfl

/-- No expiry is listed twice. -/
theorem State.dueEvents_nodup (s : State) : s.dueEvents.Nodup := by
  have deadline : s.dueDeadline.Nodup ∧ ∀ c ∈ s.dueDeadline, expiryPart c < 1 := by
    refine ⟨?_, fun c hc => ?_⟩
    · rw [State.dueDeadline_eq]
      cases s.deadlineDue <;> simp
    · obtain ⟨t, _, _, _, rfl⟩ := State.mem_dueDeadline.mp hc
      rw [t.expiry_part]
      exact Nat.one_pos
  have intervals : ∀ c ∈ s.dueIntervals, expiryPart c = 1 := fun c hc => by
    obtain ⟨i, r, rfl, _⟩ := State.mem_dueIntervals.mp hc
    rfl
  have watches : ∀ c ∈ s.dueWatches, expiryPart c = 2 := fun c hc => by
    obtain ⟨ch, hc⟩ := State.mem_dueWatches.mp hc
    rcases State.mem_feederWatches.mp hc with ⟨d, rfl, _⟩ | ⟨rfl, _⟩ <;> rfl
  have optional (b : Bool) (c : Instr) : (if b then [c] else []).Nodup ∧
      ∀ e ∈ (if b then [c] else []), expiryPart e = expiryPart c := by cases b <;> simp
  exact (nodup_append_part 4 (nodup_append_part 3 (nodup_append_part 2 (nodup_append_part 1 deadline
    ⟨s.dueIntervals_nodup, intervals⟩) ⟨s.dueWatches_nodup, watches⟩) (optional _ .siteSecondAdvance))
    (optional _ .resumeTimerExpiry)).1

/-! ## The step (notes/assumptions/1.md, 2.md) -/

theorem step_of_dueChoice_none {s : State} (empty : s.pending = []) (h : s.dueChoice = none) :
    step s = .next s.tick := by
  rw [step, empty]
  simp only [h]

theorem step_of_dueChoice_some {s u : State} {c : Instr} (empty : s.pending = []) (h : s.dueChoice = some (c, u)) :
    step s = exec c u := by
  rw [step, empty]
  simp only [h]

/-- With an empty queue an expiry that is due is taken; one of several is a free choice, which is counted. -/
theorem step_idle {s : State} (empty : s.pending = []) :
    (s.dueEvents = [] → step s = .next s.tick) ∧ (∀ c, s.dueEvents = [c] → step s = exec c s)
    ∧ (2 ≤ s.dueEvents.length → ∃ c ∈ s.dueEvents, step s = exec c { s with choices := s.choices + 1 }) := by
  refine ⟨fun none => ?_, fun c one => ?_, fun several => ?_⟩
  · exact step_of_dueChoice_none empty (by rw [State.dueChoice, none])
  · exact step_of_dueChoice_some empty (by rw [State.dueChoice, one])
  · match due : s.dueEvents, several with
    | c :: e :: rest, _ =>
      refine ⟨_, ?_, step_of_dueChoice_some empty (by rw [State.dueChoice, due])⟩
      have inside : Config.pick s.choices % ((e :: rest).length + 1) < (c :: e :: rest).length :=
        Nat.mod_lt _ (Nat.succ_pos _)
      rw [List.getD_eq_getElem _ _ inside]
      exact List.getElem_mem inside

/-! ## The millisecond -/

/-- An active feeder's record after one millisecond (R59, R62). -/
def State.tickedFeeder (s : State) (ch : Channel) : Feeder :=
  if s.active ch then
    { s.feeder ch with
      openCheck := (s.feeder ch).openCheck.map (· - 1)
      watch := ⟨s.watchTimer ch 1 .A, s.watchTimer ch 1 .B⟩ }
  else s.feeder ch

theorem State.tickFeeder_eq (s : State) (ch : Channel) :
    s.tickFeeder ch = { s with feeders := (s.tickFeeder ch).feeders } := by
  unfold State.tickFeeder
  split <;> rfl

theorem State.feeder_tickFeeder_ne (s : State) {ch other : Channel} (h : other ≠ ch) :
    (s.tickFeeder ch).feeder other = s.feeder other := by
  unfold State.tickFeeder
  split
  · rw [State.rewatch, State.feeder_putFeeder_ne _ _ h, State.feeder_putFeeder_ne _ _ h]
  · rfl

/-- The open check runs before the timers, and whether it runs is as it was. -/
theorem State.feeder_tickFeeder_self (s : State) (ch : Channel) :
    (s.tickFeeder ch).feeder ch = s.tickedFeeder ch := by
  unfold State.tickFeeder State.tickedFeeder
  split
  · rw [State.rewatch, State.feeder_putFeeder_self, State.feeder_putFeeder_self]
    simp only [State.watchTimer, State.disagrees, State.feeder_putFeeder_self, Feeder.watched, Option.isNone_map]
    rfl
  · rfl

/-- A feeder's millisecond reads no other feeder's record. -/
theorem State.tickedFeeder_congr (s : State) (F) (ch : Channel)
    (same : ({ s with feeders := F } : State).feeder ch = s.feeder ch) :
    ({ s with feeders := F } : State).tickedFeeder ch = s.tickedFeeder ch := by
  simp only [State.tickedFeeder, State.watchTimer, State.disagrees, same]
  rfl

/-- The state with another table of feeders. -/
def State.withFeeders (F : Vector Feeder 16) (s : State) : State := { s with feeders := F }

/-- A millisecond of some feeders, each of its own. -/
theorem State.tickOver (l : List Channel) (distinct : l.Nodup) (s : State) :
    let t := l.foldl State.tickFeeder s
    t = { s with feeders := t.feeders } ∧
      ∀ ch, t.feeder ch = if ch ∈ l then s.tickedFeeder ch else s.feeder ch := by
  induction l generalizing s with
  | nil => exact ⟨rfl, by simp⟩
  | cons c rest ih =>
    obtain ⟨fresh, distinct⟩ := List.nodup_cons.mp distinct
    obtain ⟨frame, each⟩ := ih distinct (s.tickFeeder c)
    have own := congrArg (State.withFeeders (rest.foldl State.tickFeeder (s.tickFeeder c)).feeders) (s.tickFeeder_eq c)
    refine ⟨frame.trans own, fun ch => (each ch).trans ?_⟩
    by_cases e : ch = c
    · subst e
      rw [if_neg fresh, if_pos List.mem_cons_self, State.feeder_tickFeeder_self]
    · have same := s.feeder_tickFeeder_ne e
      obtain ⟨F, own⟩ : ∃ F, s.tickFeeder c = { s with feeders := F } := ⟨_, s.tickFeeder_eq c⟩
      rw [own] at same ⊢
      rw [State.tickedFeeder_congr s F ch same, same]
      simp [e]


/-- What a millisecond moves beside the feeders (R9, R106, R168, R171, R172). -/
def State.tickedBeside (s : State) : State :=
  { s with
    uptime := (s.uptime + 1) % 4294967296
    clock := { s.clock with millis := if s.clock.valid then s.clock.millis + 1 else s.clock.millis }
    mode := s.mode.tick
    sets := s.sets.map (Option.map SetRec.tick)
    transfer := s.tickTransfer }

theorem State.tick_eq (s : State) : s.tick = { s.tickedBeside with feeders := s.tick.feeders } :=
  (State.tickOver channels channels_nodup s.tickedBeside).1

theorem State.feeder_tick (s : State) (ch : Channel) : s.tick.feeder ch = s.tickedFeeder ch := by
  have each := (State.tickOver channels channels_nodup s.tickedBeside).2 ch
  rw [if_pos (mem_channels ch)] at each
  exact each

theorem State.mode_tick (s : State) : s.tick.mode = s.mode.tick := by rw [State.tick_eq]; rfl

theorem State.set?_tick (s : State) (i : SetSlot) : s.tick.set? i = (s.set? i).map SetRec.tick := by
  rw [State.tick_eq]
  exact State.set?_map s (Option.map SetRec.tick) i

/-- A set's timer after one millisecond (R9). -/
theorem State.set?_tick_cases {s : State} {i : SetSlot} {r : SetRec} (found : s.set? i = some r) :
    (r.running = false → s.tick.set? i = some r)
    ∧ (r.running = true → r.timer < 59999 → s.tick.set? i = some { r with timer := r.timer + 1 })
    ∧ (r.running = true → 59999 ≤ r.timer → s.tick.set? i = some { r with expiring := true }) := by
  rw [State.set?_tick, found, Option.map_some]
  refine ⟨fun stopped => ?_, fun running short => ?_, fun running long => ?_⟩
  · simp [SetRec.tick, stopped]
  · simp [SetRec.tick, running, short]
  · simp [SetRec.tick, running, Nat.not_lt.mpr long]

theorem State.watchTimer_eq (s : State) (ch : Channel) (ms : Nat) (d : Side) (active : s.active ch = true) :
    s.watchTimer ch ms d = if (s.feeder ch).isWatched ∧ (s.feeder ch).drive.get d ≠ s.fbClosed ch d
      then some (((s.feeder ch).watch.get d).getD 0 + ms) else none := by
  rw [State.watchTimer]
  refine if_congr ?_ rfl rfl
  rw [State.disagrees_iff, active]
  simp

/-- Settles O2: the idle step, the list of due expiries and the millisecond, each by its own lemma. -/
theorem idleStepTakesAnExpiryOrAMillisecond : Obligations.IdleStepTakesAnExpiryOrAMillisecond := by
  refine ⟨fun s empty => step_idle empty, fun s => ⟨s.dueEvents_nodup, fun c => ?due⟩, fun s => ?millisecond⟩
  case due =>
    intro out
    rw [State.mem_dueEvents, State.mem_dueDeadline, State.mem_dueIntervals, State.mem_dueWatches]
    simp only [State.mem_feederWatches, State.watchDue_iff, State.secondDue_iff, State.resumeDue_iff,
      out]
    split
    case h_11 => simp_all [Transfer.expiry_eq_iff]
    all_goals simp [Transfer.expiry_eq_iff]
  case millisecond =>
    refine ⟨?_, fun ms resuming => ?_, fun steady => ?_, fun i free => ?_, fun i r found => State.set?_tick_cases found,
      fun ch inactive => ?_, fun ch active => ?_⟩
    · have millis : (if s.clock.valid then s.clock.millis + 1 else s.clock.millis)
          = s.clock.millis + if s.clock.valid then 1 else 0 := by split <;> rfl
      have frame := s.tick_eq
      generalize s.tick = t at frame ⊢
      rw [frame, State.tickedBeside, millis]
      rfl
    · rw [State.mode_tick, resuming]; rfl
    · rw [State.mode_tick]
      rcases steady with mode | mode <;> rw [mode] <;> rfl
    · rw [State.set?_tick, free]; rfl
    · rw [State.feeder_tick, State.tickedFeeder, inactive]; rfl
    · rw [State.feeder_tick, State.tickedFeeder, if_pos active, State.watchTimer_eq s ch 1 _ active,
        State.watchTimer_eq s ch 1 _ active]

end Sys2Proof.Machine
end

section
/-! An evaluation, figure by figure (R34 to R41, R80, R92, R147): what its notices, its relief and its shares
change, and what they leave. -/

namespace Sys2Proof.Machine

/-! ## Notices (R185, R187) -/

/-- A flag raised now is heard: its mask bit is 1 and RESET_N is high (R185). -/
def State.hears (s : State) (f : Flag) : Prop := s.pins.resetN = true ∧ s.mask.getLsbD f.bit = true

theorem Flag.bit_lt (f : Flag) : f.bit < 16 := by cases f <;> decide

theorem Flag.bit_injective : Function.Injective Flag.bit :=
  Function.LeftInverse.injective (g := Flag.ofNat) fun f => by cases f <;> rfl

/-- A word with one flag added holds that flag and the flags it held. -/
theorem getLsbD_or_word (v : BitVec 16) (f g : Flag) :
    (v ||| g.word).getLsbD f.bit = true ↔ v.getLsbD f.bit = true ∨ f = g := by
  have bit : (g.word.getLsbD f.bit = true) ↔ f = g := by
    rw [Flag.word, BitVec.getLsbD_twoPow]
    simp [g.bit_lt, Flag.bit_injective.eq_iff, eq_comm]
  rw [BitVec.getLsbD_or, Bool.or_eq_true, bit]

/-- Between two states just the notices that satisfy a condition were raised: those that are heard are set,
and marked in a snapshot that is held (R187). -/
structure Raises (s t : State) (P : Flag → Prop) : Prop where
  hears : ∀ f, t.hears f ↔ s.hears f
  flags : ∀ f, t.flags.getLsbD f.bit = true ↔ s.flags.getLsbD f.bit = true ∨ s.hears f ∧ P f
  noSnapshot : s.snapshot = none → t.snapshot = none
  snapshot : ∀ p, s.snapshot = some p → ∃ p', t.snapshot = some p' ∧ p'.taken = p.taken
    ∧ ∀ f, p'.reRaised.getLsbD f.bit = true ↔ p.reRaised.getLsbD f.bit = true ∨ s.hears f ∧ P f

namespace Raises

variable {s t u : State} {P Q : Flag → Prop}

theorem congr (h : Raises s t P) (same : ∀ f, P f ↔ Q f) : Raises s t Q := by
  obtain rfl : P = Q := funext fun f => propext (same f)
  exact h

/-- No notice was raised where flags, snapshot, mask and RESET_N stand. -/
theorem nothing (flags : t.flags = s.flags) (snapshot : t.snapshot = s.snapshot) (mask : t.mask = s.mask)
    (pins : t.pins = s.pins) : Raises s t fun _ => False where
  hears f := by rw [State.hears, State.hears, mask, pins]
  flags f := by simp [flags]
  noSnapshot h := snapshot.trans h
  snapshot p h := ⟨p, snapshot.trans h, rfl, by simp⟩

/-- Notices that are not heard raise nothing. -/
theorem drop (h : Raises s t fun _ => False) (unheard : ∀ f, ¬ (s.hears f ∧ P f)) : Raises s t P where
  hears := h.hears
  flags f := by rw [h.flags, and_false, iff_false_intro (unheard f)]
  noSnapshot := h.noSnapshot
  snapshot p held := by
    obtain ⟨p', held', taken', marks'⟩ := h.snapshot p held
    refine ⟨p', held', taken', fun f => ?_⟩
    rw [marks', and_false, iff_false_intro (unheard f)]

/-- A notice that is not heard is lost (R185). -/
theorem raise (s : State) (g : Flag) : Raises s (s.raise g) (· = g) := by
  by_cases heard : s.hears g
  · have only : ∀ f, s.hears f ∧ f = g ↔ f = g := fun f => and_iff_right_of_imp fun e => e ▸ heard
    obtain ⟨high, unmasked⟩ := heard
    rw [State.raise, high, unmasked, Bool.and_self, if_pos rfl]
    refine ⟨fun f => Iff.rfl, fun f => ?_, fun none => ?_, fun p held => ⟨p.mark g, ?_, rfl, fun f => ?_⟩⟩
    · rw [getLsbD_or_word, only]
    · simp [none]
    · simp [held]
    · rw [Snapshot.mark, getLsbD_or_word, only]
  · have unchanged : s.raise g = s := by
      rw [State.raise, if_neg]
      rwa [Bool.and_eq_true]
    rw [unchanged]
    refine (nothing rfl rfl rfl rfl).drop fun f => ?_
    rintro ⟨heard', rfl⟩
    exact heard heard'

theorem trans (h : Raises s t P) (k : Raises t u Q) : Raises s u fun f => P f ∨ Q f where
  hears f := (k.hears f).trans (h.hears f)
  flags f := by rw [k.flags, h.flags, h.hears, and_or_left, or_assoc]
  noSnapshot none := k.noSnapshot (h.noSnapshot none)
  snapshot p held := by
    obtain ⟨p', held', taken', marks'⟩ := h.snapshot p held
    obtain ⟨p'', held'', taken'', marks''⟩ := k.snapshot p' held'
    refine ⟨p'', held'', taken''.trans taken', fun f => ?_⟩
    rw [marks'', marks', h.hears, and_or_left, or_assoc]

theorem raiseIf (s : State) (c : Bool) (g : Flag) : Raises s (s.raiseIf c g) fun f => c = true ∧ f = g := by
  cases c with
  | false => exact (nothing rfl rfl rfl rfl).congr (by simp)
  | true => exact (raise s g).congr (by simp)

/-- Of the notices raised since a state, those not yet raised at a later state were raised after it. -/
theorem cancel (h : Raises s t P) (k : Raises s u fun f => P f ∨ Q f) : Raises t u Q where
  hears f := (k.hears f).trans (h.hears f).symm
  flags f := by rw [k.flags, h.flags, h.hears, and_or_left, or_assoc]
  noSnapshot none := by
    cases held : s.snapshot with
    | none => exact k.noSnapshot held
    | some p =>
      obtain ⟨p', held', _⟩ := h.snapshot p held
      cases none.symm.trans held'
  snapshot p' held' := by
    cases held : s.snapshot with
    | none => cases (h.noSnapshot held).symm.trans held'
    | some p =>
      obtain ⟨q, heldq, taken', marks'⟩ := h.snapshot p held
      obtain ⟨p'', held'', taken'', marks''⟩ := k.snapshot p held
      cases heldq.symm.trans held'
      refine ⟨p'', held'', taken''.trans taken'.symm, fun f => ?_⟩
      rw [marks'', marks', h.hears, and_or_left, or_assoc]

/-- The notices of the conditions entered (R20). -/
theorem raiseEntries (s : State) (before after : Conds) : Raises s (s.raiseEntries before after) fun f =>
    (f = .reserve ∧ before.reserve = false ∧ after.reserve = true)
      ∨ (f = .dry ∧ before.dry = false ∧ after.dry = true)
      ∨ (f = .overload ∧ before.overload = false ∧ after.overload = true)
      ∨ (f = .uncosted ∧ before.uncosted = false ∧ after.uncosted = true) :=
  ((((raiseIf _ _ .reserve).trans (raiseIf _ _ .dry)).trans (raiseIf _ _ .overload)).trans
    (raiseIf _ _ .uncosted)).congr fun f => by simp [and_comm, or_assoc]

end Raises

/-! ## Relief generation (R92, R93) -/

/-- Two states that relief generation cannot tell apart. -/
structure SameForRelief (s u : State) : Prop where
  queue : u.queue = s.queue
  clock : u.clock = s.clock
  straps : u.straps = s.straps
  state : ∀ ch, (u.feeder ch).state = (s.feeder ch).state
  bound : ∀ ch, (u.feeder ch).bound = (s.feeder ch).bound

/-- What relief generation leaves: a queue, and RELIEF_DROPPED if an order was dropped. -/
def State.relieved (s : State) (queue : List Order) (dropped : Bool) : State :=
  ({ s with queue := queue } : State).raiseIf dropped .reliefDropped

theorem State.placeRelief_same (window : Nat) (l : List Channel) {s u : State} (h : SameForRelief s u) :
    ∃ queue dropped, s.placeRelief window l = s.relieved queue dropped
      ∧ u.placeRelief window l = u.relieved queue dropped := by
  induction l generalizing s u with
  | nil => exact ⟨s.queue, false, rfl, by rw [← h.queue]; rfl⟩
  | cons ch rest ih =>
    unfold State.placeRelief
    have order : u.reliefOrder ch window = s.reliefOrder ch window := by
      simp only [State.reliefOrder, h.clock, h.state]
    have ends : (decide (8 ≤ u.queue.length) || u.clock.minute == lastMinute)
        = (decide (8 ≤ s.queue.length) || s.clock.minute == lastMinute) := by rw [h.queue, h.clock]
    rw [ends, order, h.queue]
    split
    · exact ⟨s.queue, true, rfl, by rw [← h.queue]; rfl⟩
    · have next : SameForRelief { s with queue := insertOrder (s.reliefOrder ch window) s.queue }
          { u with queue := insertOrder (s.reliefOrder ch window) s.queue } :=
        ⟨rfl, h.clock, h.straps, h.state, h.bound⟩
      obtain ⟨queue, dropped, first, second⟩ := ih next
      exact ⟨queue, dropped, first, second⟩

theorem State.generateRelief_same {s u : State} (h : SameForRelief s u) (i : SetSlot) (relief : Option SetSlot)
    (window : Nat) : ∃ queue dropped, s.generateRelief i relief window = s.relieved queue dropped
      ∧ u.generateRelief i relief window = u.relieved queue dropped := by
  cases relief with
  | none => exact ⟨s.queue, false, rfl, by rw [← h.queue]; rfl⟩
  | some r =>
    have wanting (ch : Channel) : (u.qualifies i r ch && (u.orderFor ch).isNone)
        = (s.qualifies i r ch && (s.orderFor ch).isNone) := by
      simp only [State.qualifies, State.active, State.orderFor, h.straps, h.state, h.bound, h.queue]
    simp only [State.generateRelief, wanting, h.clock]
    split
    · exact State.placeRelief_same window _ h
    · exact ⟨s.queue, _, rfl, by rw [← h.queue]; rfl⟩

theorem Raises.relieved (s : State) (queue : List Order) (dropped : Bool) :
    Raises s (s.relieved queue dropped) fun f => dropped = true ∧ f = .reliefDropped := by
  have written : Raises s { s with queue := queue } fun _ => False := .nothing rfl rfl rfl rfl
  exact (written.trans (.raiseIf _ dropped .reliefDropped)).congr fun f => by simp

theorem State.queue_relieved (s : State) (queue : List Order) (dropped : Bool) :
    (s.relieved queue dropped).queue = queue := by
  rw [State.relieved, State.raiseIf_eq]

/-! ## Shares (R80, R147) -/

/-- Crediting the share cuts an addition short (R147). -/
def Account.cutBy (r : Account) (price share : Nat) : Bool :=
  cutShort max32 r.fuelShare share || cutShort max48 r.fuelAccrual (share * price)

/-- An account after its share is credited (R80). -/
def Account.credited (r : Account) (price share : Nat) : Account :=
  { r with
    fuelShare := satAdd max32 r.fuelShare share
    fuelAccrual := satAdd max48 r.fuelAccrual (share * price)
    saturated := r.saturated || r.cutBy price share }

theorem State.creditShare_some {s : State} {a : AccountSlot} {r : Account} (h : s.account? a = some r) (share : Nat) :
    s.creditShare a share = (s.putAccount a (some (r.credited s.tariff.price.live share))).raiseIf
      (r.cutBy s.tariff.price.live share) .saturated := by
  simp only [State.creditShare, h]
  rfl

theorem State.creditShare_none {s : State} {a : AccountSlot} (h : s.account? a = none) (share : Nat) :
    s.creditShare a share = s := by
  simp only [State.creditShare, h]

theorem State.account?_creditShare (s : State) (a b : AccountSlot) (share : Nat) :
    (s.creditShare a share).account? b = if b = a then (s.account? a).map (·.credited s.tariff.price.live share)
      else s.account? b := by
  cases h : s.account? a with
  | none =>
    rw [State.creditShare_none h]
    split
    · rename_i e; rw [e, h]; rfl
    · rfl
  | some r =>
    rw [State.creditShare_some h, State.raiseIf_eq]
    split
    · rename_i e; subst e; exact State.account?_putAccount_self s _ _
    · rename_i e; exact State.account?_putAccount_ne s _ e

/-- A share of the account that is cut short raises SATURATED (R147). -/
theorem Raises.creditShare (s : State) (a : AccountSlot) (share : Nat) :
    Raises s (s.creditShare a share) fun f =>
      f = .saturated ∧ ∃ x, s.account? a = some x ∧ x.cutBy s.tariff.price.live share = true := by
  cases h : s.account? a with
  | none =>
    rw [State.creditShare_none h]
    exact (nothing rfl rfl rfl rfl).congr (by simp)
  | some r =>
    rw [State.creditShare_some h]
    have credit : Raises s (s.putAccount a (some (r.credited s.tariff.price.live share))) fun _ => False :=
      nothing rfl rfl rfl rfl
    exact (credit.trans (raiseIf _ (r.cutBy s.tariff.price.live share) .saturated)).congr (by simp [and_comm])

/-- In a list with each account at most once, an account's share is the one its entry holds. -/
theorem mem_iff_lookup {shares : List (AccountSlot × Nat)} (distinct : (shares.map (·.1)).Nodup) (a : AccountSlot)
    (share : Nat) : (a, share) ∈ shares ↔ shares.lookup a = some share := by
  induction shares with
  | nil => simp
  | cons p rest ih =>
    obtain ⟨fresh, distinct⟩ := List.nodup_cons.mp distinct
    rw [List.mem_cons, List.lookup_cons]
    by_cases e : a = p.1
    · subst e
      have absent : (p.1, share) ∉ rest := fun h => fresh (List.mem_map_of_mem (f := (·.1)) h)
      simp [absent, Prod.ext_iff, eq_comm]
    · rw [beq_eq_false_iff_ne.mpr e, ← ih distinct]
      simp [Prod.ext_iff, e]

section Shares

variable {shares : List (AccountSlot × Nat)} (distinct : (shares.map (·.1)).Nodup)
include distinct

theorem State.account?_creditShares (s : State) (b : AccountSlot) :
    (s.creditShares shares).account? b =
      match shares.lookup b with
      | some share => (s.account? b).map (·.credited s.tariff.price.live share)
      | none => s.account? b := by
  induction shares generalizing s with
  | nil => rfl
  | cons p rest ih =>
    obtain ⟨fresh, distinct⟩ := List.nodup_cons.mp distinct
    have price : (s.creditShare p.1 p.2).tariff = s.tariff := by rw [State.creditShare_eq]
    have tail : s.creditShares (p :: rest) = (s.creditShare p.1 p.2).creditShares rest := rfl
    rw [tail, ih distinct, price, State.account?_creditShare, List.lookup_cons]
    by_cases e : b = p.1
    · subst e
      have absent : rest.lookup p.1 = none := List.lookup_eq_none_iff.mpr fun q hq =>
        bne_iff_ne.mpr fun e => fresh (List.mem_map.mpr ⟨q, hq, e.symm⟩)
      simp [absent]
    · simp [e, beq_eq_false_iff_ne.mpr e]

/-- The shares that are cut short raise SATURATED (R147). -/
theorem Raises.creditShares (s : State) : Raises s (s.creditShares shares) fun f =>
    f = .saturated ∧ ∃ p ∈ shares, ∃ x, s.account? p.1 = some x ∧ x.cutBy s.tariff.price.live p.2 = true := by
  induction shares generalizing s with
  | nil => exact (nothing rfl rfl rfl rfl).congr (by simp)
  | cons p rest ih =>
    obtain ⟨fresh, distinct⟩ := List.nodup_cons.mp distinct
    have price : (s.creditShare p.1 p.2).tariff = s.tariff := by rw [State.creditShare_eq]
    refine ((creditShare s p.1 p.2).trans (ih distinct _)).congr fun f => ?_
    have others : ∀ q ∈ rest, (s.creditShare p.1 p.2).account? q.1 = s.account? q.1 := fun q hq => by
      rw [State.account?_creditShare, if_neg]
      exact fun e => fresh (List.mem_map.mpr ⟨q, hq, e⟩)
    rw [← and_or_left, price]
    simp only [List.mem_cons, or_and_right, exists_or, exists_eq_left]
    refine and_congr_right fun _ => or_congr Iff.rfl (exists_congr fun q => and_congr_right fun hq => ?_)
    rw [others q hq]

end Shares

/-! ## The whole evaluation -/

theorem State.contributions_nodup (s : State) (i : SetSlot) {r : SetRec} (h : r.InRange) :
    ((s.contributions i r).map (·.1)).Nodup := by
  have feeders (l : List Channel) (entries : List (AccountSlot × Nat)) (distinct : (entries.map (·.1)).Nodup) :
      ((l.foldl (s.addFeeder i) entries).map (·.1)).Nodup := by
    induction l generalizing entries with
    | nil => exact distinct
    | cons ch l ih =>
      refine ih _ ?_
      unfold State.addFeeder
      split
      · exact addEntry_nodup distinct _ _
      · exact distinct
  unfold State.contributions addOverflow
  split
  · exact addEntry_nodup (feeders _ _ h.oneEntry) _ _
  · exact feeders _ _ h.oneEntry

theorem sharesOf_nodup (burn : Nat) {l : List (AccountSlot × Nat)} (idle : AccountSlot)
    (distinct : (l.map (·.1)).Nodup) : ((sharesOf burn l idle).map (·.1)).Nodup := by
  unfold sharesOf
  split
  · exact List.nodup_singleton _
  · rwa [List.map_map]

/-- The marker's two causes as R147 states them. -/
theorem Account.cutBy_iff (x : Account) (price share : Nat) : x.cutBy price share = true ↔
    (share ≠ 0 ∧ 4294967295 < x.fuelShare + share)
      ∨ (share * price ≠ 0 ∧ 281474976710655 < x.fuelAccrual + share * price) := by
  simp only [Account.cutBy, cutShort, Bool.or_eq_true, Bool.and_eq_true, decide_eq_true_eq]
  exact or_congr and_comm and_comm

theorem Account.cutBy_zero (x : Account) (price : Nat) : x.cutBy price 0 = false := by
  simp [Account.cutBy, cutShort]

/-- Crediting 0 changes nothing of an account in range (R80). -/
theorem Account.credited_zero {x : Account} (price : Nat) (share : x.fuelShare ≤ max32)
    (accrual : x.fuelAccrual ≤ max48) :
    x.credited price 0 = x := by
  simp only [Account.credited, satAdd, Nat.zero_mul, Nat.add_zero, Nat.min_eq_right share, Nat.min_eq_right accrual,
    x.cutBy_zero, Bool.or_false]

theorem State.sameForRelief_collectFeeders (s : State) (i : SetSlot) (secs : Nat) :
    SameForRelief s (s.collectFeeders i secs) := by
  have frame := s.collectFeeders_eq i secs
  refine ⟨by rw [frame], by rw [frame], by rw [frame], fun ch => ?_, fun ch => ?_⟩ <;>
  · rw [State.feeder_collectFeeders]
    split <;> rfl

/-- The notices of the conditions a set enters (R20). -/
def entersCond (before after : Conds) (f : Flag) : Prop :=
  (f = .reserve ∧ before.reserve = false ∧ after.reserve = true)
    ∨ (f = .dry ∧ before.dry = false ∧ after.dry = true)
    ∨ (f = .overload ∧ before.overload = false ∧ after.overload = true)
    ∨ (f = .uncosted ∧ before.uncosted = false ∧ after.uncosted = true)

/-- The notices of the shares that are cut short (R147). -/
def State.cutsShare (s : State) (shares : List (AccountSlot × Nat)) (f : Flag) : Prop :=
  f = .saturated ∧ ∃ p ∈ shares, ∃ x, s.account? p.1 = some x ∧ x.cutBy s.tariff.price.live p.2 = true

theorem State.cutsShare_same {s u : State} (accounts : u.accounts = s.accounts) (tariff : u.tariff = s.tariff)
    (shares : List (AccountSlot × Nat)) (f : Flag) : u.cutsShare shares f ↔ s.cutsShare shares f := by
  simp only [State.cutsShare, State.account?, accounts, tariff]

/-- The state a set's RESERVE entry makes by relief generation; no other entry makes any (R92). -/
def State.relievedAtEntry (s : State) (i : SetSlot) (before after : SetRec) : State :=
  if before.conds.reserve = false ∧ after.conds.reserve = true then s.generateRelief i before.relief before.window
  else s

/-- The record's write and the relief at its RESERVE entry: the queue is that of the relief, and the notices
are the relief's and those of the entries. -/
theorem State.written_raises {s u : State} (same : SameForRelief s u) (quiet : Raises s u fun _ => False) (i : SetSlot)
    {before after : SetRec} (relief : after.relief = before.relief) (window : after.window = before.window) :
    ((u.writeSet i before after).reliefAtEntry i before after).queue = (s.relievedAtEntry i before after).queue
    ∧ Raises (s.relievedAtEntry i before after) ((u.writeSet i before after).reliefAtEntry i before after)
        (entersCond before.conds after.conds) := by
  have put : Raises u (u.putSet i (some after)) fun _ => False := .nothing rfl rfl rfl rfl
  have entries : Raises s (u.writeSet i before after) (entersCond before.conds after.conds) :=
    ((quiet.trans put).trans (.raiseEntries _ _ _)).congr fun f => by simp [entersCond]
  have same : SameForRelief s (u.writeSet i before after) := by
    rw [State.writeSet_eq]
    exact ⟨same.queue, same.clock, same.straps, same.state, same.bound⟩
  generalize u.writeSet i before after = v at entries same
  unfold State.reliefAtEntry State.relievedAtEntry
  by_cases entered : before.conds.reserve = false ∧ after.conds.reserve = true
  · obtain ⟨queue, dropped, first, second⟩ := State.generateRelief_same same i before.relief before.window
    have entry : (!before.conds.reserve && after.conds.reserve) = true := by simp [entered]
    rw [if_pos entered, if_pos entry, relief, window, first, second, State.queue_relieved, State.queue_relieved]
    have later := entries.trans (.relieved v queue dropped)
    exact ⟨rfl, (Raises.relieved s queue dropped).cancel (later.congr fun f => or_comm)⟩
  · have entry : (!before.conds.reserve && after.conds.reserve) ≠ true := by simpa using entered
    rw [if_neg entered, if_neg entry]
    exact ⟨same.queue, entries⟩

theorem State.written_accounts (u : State) (i : SetSlot) (before after : SetRec) :
    ((u.writeSet i before after).reliefAtEntry i before after).accounts = u.accounts
    ∧ ((u.writeSet i before after).reliefAtEntry i before after).tariff = u.tariff := by
  rw [State.reliefAtEntry_eq, State.writeSet_eq]
  exact ⟨rfl, rfl⟩

theorem State.evaluate_raises {s : State} {i : SetSlot} {r : SetRec} (found : s.set? i = some r) (range : r.InRange)
    (secs : Nat) :
    let after := r.evaluated (s.contributions i r) s.curves[r.curve] secs
    (s.evaluate i secs).1.queue = (s.relievedAtEntry i r after).queue
    ∧ Raises (s.relievedAtEntry i r after) (s.evaluate i secs).1 fun f => entersCond r.conds after.conds f
        ∨ s.cutsShare (sharesOf (s.evaluate i secs).2 (s.contributions i r) r.idle) f := by
  intro after
  have relief : after.relief = r.relief := by rw [show after = _ from SetRec.evaluated_eq _ _ _ _]
  have window : after.window = r.window := by rw [show after = _ from SetRec.evaluated_eq _ _ _ _]
  have frame := s.collectFeeders_eq i secs
  have quiet : Raises s (s.collectFeeders i secs) fun _ => False :=
    .nothing (by rw [frame]) (by rw [frame]) (by rw [frame]) (by rw [frame])
  obtain ⟨queue, notices⟩ := State.written_raises (s.sameForRelief_collectFeeders i secs) quiet i relief window
  obtain ⟨accounts, tariff⟩ := State.written_accounts (s.collectFeeders i secs) i r after
  have accounts := accounts.trans (show (s.collectFeeders i secs).accounts = s.accounts by rw [frame])
  have tariff := tariff.trans (show (s.collectFeeders i secs).tariff = s.tariff by rw [frame])
  rw [State.evaluate_eq found]
  dsimp only
  refine ⟨?_, ?_⟩
  · rw [State.creditShares_eq]
    exact queue
  · refine (notices.trans (.creditShares (sharesOf_nodup _ _ (s.contributions_nodup i range)) _)).congr fun f => ?_
    exact or_congr Iff.rfl (State.cutsShare_same accounts tariff _ f)

/-- An evaluation credits to each account its share, 0 to one without an entry (R80). -/
theorem State.account?_evaluate {s : State} {i : SetSlot} {r : SetRec} (found : s.set? i = some r) (range : r.InRange)
    (secs : Nat) (a : AccountSlot) : (s.evaluate i secs).1.account? a =
      match (sharesOf (s.evaluate i secs).2 (s.contributions i r) r.idle).lookup a with
      | some share => (s.account? a).map (·.credited s.tariff.price.live share)
      | none => s.account? a := by
  obtain ⟨accounts, tariff⟩ := State.written_accounts (s.collectFeeders i secs) i r
    (r.evaluated (s.contributions i r) s.curves[r.curve] secs)
  have frame := s.collectFeeders_eq i secs
  have account : ((s.collectFeeders i secs).writeSet i r (r.evaluated (s.contributions i r) s.curves[r.curve] secs)
      |>.reliefAtEntry i r (r.evaluated (s.contributions i r) s.curves[r.curve] secs)).account? a = s.account? a := by
    rw [State.account?, accounts, frame]; rfl
  have price := tariff.trans (show (s.collectFeeders i secs).tariff = s.tariff by rw [frame])
  rw [State.evaluate_eq found]
  dsimp only
  rw [State.account?_creditShares (sharesOf_nodup _ _ (s.contributions_nodup i range)), account, price]

/-- Of a total in range, an addition is cut short just when it passes the maximum (R147). -/
theorem cutShort_eq {cap a : Nat} (inRange : a ≤ cap) (x : Nat) : cutShort cap a x = decide (cap < a + x) := by
  rw [cutShort, ← Bool.decide_and]
  exact decide_eq_decide.mpr ⟨And.left, fun past => ⟨past, by omega⟩⟩

/-- A credit as R80 and R147 state it, of an account in range. -/
theorem Account.credited_eq {x : Account} (price share : Nat) (inRange : x.fuelShare ≤ 4294967295)
    (accrual : x.fuelAccrual ≤ 281474976710655) :
    x.credited price share = { x with
      fuelShare := min 4294967295 (x.fuelShare + share)
      fuelAccrual := min 281474976710655 (x.fuelAccrual + share * price)
      saturated := x.saturated || decide (4294967295 < x.fuelShare + share)
        || decide (281474976710655 < x.fuelAccrual + share * price) } := by
  rw [Account.credited, Account.cutBy, cutShort_eq (cap := max32) inRange,
    cutShort_eq (cap := max48) accrual, ← Bool.or_assoc]
  rfl

/-- Some share is cut short: the saturation marker's cause, account by account (R147). -/
theorem State.exists_cut_iff {s : State} {shares : List (AccountSlot × Nat)} (distinct : (shares.map (·.1)).Nodup) :
    (∃ p ∈ shares, ∃ x, s.account? p.1 = some x ∧ x.cutBy s.tariff.price.live p.2 = true) ↔
      ∃ a x, s.account? a = some x ∧ x.cutBy s.tariff.price.live ((shares.lookup a).getD 0) = true := by
  constructor
  · rintro ⟨⟨a, share⟩, entry, x, opened, cut⟩
    refine ⟨a, x, opened, ?_⟩
    rwa [(mem_iff_lookup distinct a share).mp entry]
  · rintro ⟨a, x, opened, cut⟩
    cases entry : shares.lookup a with
    | none => rw [entry, Option.getD_none, x.cutBy_zero] at cut; cases cut
    | some share =>
      rw [entry] at cut
      exact ⟨(a, share), (mem_iff_lookup distinct a share).mpr entry, x, opened, cut⟩

theorem State.hears_relievedAtEntry (s : State) (i : SetSlot) (before after : SetRec) (f : Flag) :
    (s.relievedAtEntry i before after).hears f ↔ s.hears f := by
  unfold State.relievedAtEntry
  split
  · rw [State.generateRelief_eq]; rfl
  · rfl

/-- The flags of an evaluation, one by one (R20, R147). -/
theorem State.evaluationNotice_iff {s : State} {before after : Conds} {shares : List (AccountSlot × Nat)}
    (distinct : (shares.map (·.1)).Nodup) (f : Flag) :
    (entersCond before after f ∨ s.cutsShare shares f) ↔ match f with
      | .reserve => before.reserve = false ∧ after.reserve = true
      | .dry => before.dry = false ∧ after.dry = true
      | .overload => before.overload = false ∧ after.overload = true
      | .uncosted => before.uncosted = false ∧ after.uncosted = true
      | .saturated => ∃ a x, s.account? a = some x
          ∧ (((shares.lookup a).getD 0 ≠ 0 ∧ 4294967295 < x.fuelShare + (shares.lookup a).getD 0)
            ∨ ((shares.lookup a).getD 0 * s.tariff.price.live ≠ 0
              ∧ 281474976710655 < x.fuelAccrual + (shares.lookup a).getD 0 * s.tariff.price.live))
      | _ => False := by
  rw [State.cutsShare, State.exists_cut_iff distinct]
  cases f <;> simp [entersCond, Account.cutBy_iff]

/-- Settles O31: the shares, the frame, the relief and the notices of an evaluation. -/
theorem evaluationChargesEachShare : Obligations.EvaluationChargesEachShare := by
  intro s i r secs found range _
  have shared := State.account?_evaluate found range secs
  obtain ⟨queue, notices⟩ := State.evaluate_raises found range secs
  have distinct := sharesOf_nodup (s.evaluate i secs).2 r.idle (s.contributions_nodup i range)
  refine ⟨fun a x opened share accrual => ?credit, fun a closed => ?closed, ?frame, fun q hq => ?notices⟩
  case credit =>
    rw [shared, opened]
    cases entry : (sharesOf (s.evaluate i secs).2 (s.contributions i r) r.idle).lookup a with
    | none =>
      have none := (x.credited_zero s.tariff.price.live share accrual).symm.trans (x.credited_eq _ 0 share accrual)
      rw [Nat.zero_mul] at none
      exact congrArg some (by simpa [entry] using none)
    | some given => exact congrArg some (by simpa [entry] using x.credited_eq s.tariff.price.live given share accrual)
  case closed =>
    rw [shared, closed]
    split <;> rfl
  case frame =>
    have frame := State.evaluate_frame found secs
    have collected := s.collectFeeders_eq i secs
    generalize (s.evaluate i secs).1 = t at frame ⊢
    generalize s.collectFeeders i secs = u at frame collected
    rw [frame, collected]
    rfl
  case notices =>
    have written : r.evaluated (s.contributions i r) s.curves[r.curve] secs = q :=
      Option.some.inj ((State.set?_evaluate_self found secs).symm.trans hq)
    rw [written] at queue notices
    have heard (f : Flag) := and_congr (s.hears_relievedAtEntry i r q f)
      (State.evaluationNotice_iff (s := s) (before := r.conds) (after := q.conds) distinct f)
    refine ⟨queue, fun f => ?_, notices.noSnapshot, fun p held => ?_⟩
    · exact (notices.flags f).trans (or_congr Iff.rfl ((heard f).trans and_assoc))
    · obtain ⟨p', held', taken, marks⟩ := notices.snapshot p held
      exact ⟨p', held', taken, fun f => (marks f).trans (or_congr Iff.rfl ((heard f).trans and_assoc))⟩

end Sys2Proof.Machine
end

section
/-! What feeder work leaves (R46, R48, R182, R187), and the work of a reset on one channel as one write
(R65, R66). -/

namespace Sys2Proof.Machine

/-! ## What feeder work leaves -/

namespace FeederWork

variable {s t : State}

/-- Feeder work clears no flag and takes no snapshot. -/
theorem notes (h : FeederWork s t) : s.NotesOnward t := by
  induction h with
  | aside _ notes => exact notes
  | feeder => exact ⟨id, fun _ h => h⟩
  | flush s ch =>
    rcases s.flush_cases ch with h | ⟨_, _, _, h⟩
    · rw [h]; exact ⟨id, fun _ h => h⟩
    · rw [h]; exact ⟨id, fun _ h => h⟩
  | trans _ _ first second => exact ⟨second.1 ∘ first.1, fun b h => second.2 b (first.2 b h)⟩

/-- Beside the count of free choices, feeder work keeps the records of `KeepsOtherRecords`. -/
theorem keepsOther (h : FeederWork s t) : KeepsOtherRecords { s with choices := t.choices } t := by
  induction h with
  | @aside s t h _ =>
    rw [h]
    exact .aside { s with choices := t.choices } t.queue t.transfer t.lastOutcome t.flags t.snapshot
  | feeder terms _ => exact .putFeeder terms
  | flush s ch =>
    have keeps := KeepsOtherRecords.flush s ch
    have choices := keeps.choices
    rw [choices]
    exact keeps
  | @trans s t u _ _ first second =>
    have counted : KeepsOtherRecords { s with choices := u.choices } { t with choices := u.choices } :=
      { first with choices := rfl }
    exact counted.trans second


end FeederWork

/-- The port's own records, the pins and the straps. -/
def State.port (s : State) : Result × BitVec 16 × Option Staging × Pins × Straps :=
  (s.result, s.mask, s.staging, s.pins, s.straps)

theorem FeederWork.port {s t : State} (h : FeederWork s t) : t.port = s.port := by
  induction h with
  | aside h _ => rw [h]; rfl
  | feeder => rfl
  | flush s ch =>
    rcases s.flush_cases ch with h | ⟨_, _, _, h⟩
    · rw [h]
    · rw [h]; rfl
  | trans _ _ first second => exact second.trans first

/-! ## The work of a reset on one channel -/

/-- What a reset does to one channel: its record, the energy its flush moves, whether its order leaves the
queue and whether it raises FEEDER_FAULT. -/
structure ChannelEffect where
  feeder : Feeder
  moves : Option (SetSlot × Nat)
  unqueued : Bool
  faults : Bool

/-- A set's record after the energy a flush moves, if it moves some there (R53, R70). -/
def SetRec.receive (a : AccountSlot) (moves : Option (SetSlot × Nat)) (i : SetSlot) (r : SetRec) : SetRec :=
  match moves with
  | some (j, e) => if j = i then r.carry a e else r
  | none => r

/-- The set table after the energy a flush moves. -/
def State.receiving (s : State) (a : AccountSlot) : Option (SetSlot × Nat) → Vector (Option SetRec) 24
  | some (i, e) => s.sets.set i ((s.set? i).map (·.carry a e))
  | none => s.sets

/-- The effect written to the state. -/
def State.reach (s : State) (ch : Channel) (e : ChannelEffect) : State :=
  ({ s with
      sets := s.receiving e.feeder.account e.moves
      feeders := s.feeders.set ch e.feeder
      queue := if e.unqueued then s.queue.filter (·.feeder != ch) else s.queue } : State).raiseIf
    e.faults .feederFault

theorem State.filter_orders_none {s : State} {ch : Channel} (h : s.orderFor ch = none) :
    s.queue.filter (·.feeder != ch) = s.queue := by
  refine List.filter_eq_self.mpr fun o ho => ?_
  have other := List.find?_eq_none.mp h o ho
  simpa using other

/-- A feeder's last outcome after its order, if it has one, is taken out of the queue (R48). -/
def State.lastAfter (s : State) (ch : Channel) (o : TransferOutcome) (r : Reason) : Option LastTransfer :=
  match s.orderFor ch with
  | some ord => some ⟨ord.target, o, r, s.now⟩
  | none => (s.feeder ch).last

theorem State.removeOrder_eq (s : State) (ch : Channel) (o : TransferOutcome) (r : Reason) :
    s.removeOrder ch o r = { s with
      queue := s.queue.filter (·.feeder != ch)
      feeders := s.feeders.set ch { s.feeder ch with last := s.lastAfter ch o r } } := by
  unfold State.lastAfter
  rcases s.removeOrder_cases ch o r with ⟨none, h⟩ | ⟨ord, some, h⟩
  · rw [h, none, State.filter_orders_none none]
    exact (s.putFeeder_feeder ch).symm
  · rw [h, some]; rfl

theorem State.flush_eq (s : State) (ch : Channel) : s.flush ch = { s with
    sets := s.receiving (s.feeder ch).account (s.flushMoves ch)
    feeders := s.feeders.set ch { s.feeder ch with
      interval := if (s.flushMoves ch).isSome then 0 else (s.feeder ch).interval } } := by
  unfold State.flush
  cases s.flushMoves ch with
  | none => exact (s.putFeeder_feeder ch).symm
  | some p => rfl

/-- A feeder flushed, opened and without its order, in a state (R63, R66). -/
def State.emptied (s : State) (ch : Channel) (st : FeederState) (cause : FaultCause) (o : TransferOutcome)
    (r : Reason) : Feeder :=
  { s.feeder ch with
    state := st, cause := cause, drive := ⟨false, false⟩, openCheck := none, watch := ⟨none, none⟩
    interval := if (s.flushMoves ch).isSome then 0 else (s.feeder ch).interval
    last := s.lastAfter ch o r }

theorem State.faultFeeder_eq (s : State) (ch : Channel) (cause : FaultCause) : s.faultFeeder ch cause =
    s.reach ch ⟨s.emptied ch .fault cause .failed .feederFault, s.flushMoves ch, true, true⟩ := by
  unfold State.faultFeeder
  dsimp only
  rw [State.removeOrder_eq, State.driveOpen, State.flush_eq]
  simp only [State.putFeeder, State.feeder, Fin.getElem_fin, Vector.getElem_set_self, Vector.set_set, State.lastAfter,
    State.orderFor, State.now, State.emptied, State.reach, State.raiseIf_true, if_true]

theorem State.deactivate_eq (s : State) (ch : Channel) : s.deactivate ch =
    s.reach ch ⟨s.emptied ch .dark .none .cancelled .channelInactive, s.flushMoves ch, true, false⟩ := by
  unfold State.deactivate
  dsimp only
  rw [State.removeOrder_eq, State.driveOpen, State.flush_eq]
  simp only [State.putFeeder, State.feeder, Fin.getElem_fin, Vector.getElem_set_self, Vector.set_set, State.lastAfter,
    State.orderFor, State.now, State.emptied, State.reach, State.raiseIf_false, if_true]

/-- The re-derivation of a feeder as an effect (R65). -/
def State.rederiving (s : State) (ch : Channel) : ChannelEffect :=
  if s.derived ch = .fault then
    ⟨s.emptied ch .fault (derivedCause (s.fbClosed ch .A) (s.fbClosed ch .B)) .failed .feederFault, s.flushMoves ch,
      true, true⟩
  else
    ⟨{ s.feeder ch with state := s.derived ch, cause := .none, openCheck := none, watch := ⟨none, none⟩ }, none,
      false, false⟩

theorem State.rederive_eq (s : State) (ch : Channel) : s.rederive ch = s.reach ch (s.rederiving ch) := by
  unfold State.rederive State.rederiving
  split
  · exact s.faultFeeder_eq ch _
  · rfl

/-- A channel made inactive, as an effect (R66). -/
def State.leaving (s : State) (ch : Channel) : ChannelEffect :=
  ⟨s.emptied ch .dark .none .cancelled .channelInactive, s.flushMoves ch, true, false⟩

/-- Step 4 of a reset for one channel, as an effect (R176). -/
def State.settling (s : State) (done : Option Channel) (ch : Channel) : ChannelEffect :=
  if some ch = done then
    ⟨{ s.feeder ch with watch := ⟨s.watchTimer ch 0 .A, s.watchTimer ch 0 .B⟩ }, none, false, false⟩
  else if s.active ch then s.rederiving ch
  else ⟨s.feeder ch, none, false, false⟩

theorem State.settle_eq (s : State) (done : Option Channel) (ch : Channel) :
    (if some ch = done then s.rewatch ch 0 else if s.active ch then s.rederive ch else s)
      = s.reach ch (s.settling done ch) := by
  unfold State.settling
  split
  · rfl
  · split
    · exact s.rederive_eq ch
    · exact (s.putFeeder_feeder ch).symm

/-! ## One channel's effect on the records -/

theorem State.reach_beside (s : State) (ch : Channel) (e : ChannelEffect) : s.reach ch e = { s with
    sets := (s.reach ch e).sets, feeders := (s.reach ch e).feeders, queue := (s.reach ch e).queue
    flags := (s.reach ch e).flags, snapshot := (s.reach ch e).snapshot } := by
  unfold State.reach
  rw [State.raiseIf_eq]

theorem State.feeder_reach_self (s : State) (ch : Channel) (e : ChannelEffect) :
    (s.reach ch e).feeder ch = e.feeder := by
  rw [State.reach, State.raiseIf_eq]
  exact s.feeder_putFeeder_self ch e.feeder

theorem State.feeder_reach_ne (s : State) {ch other : Channel} (e : ChannelEffect) (h : other ≠ ch) :
    (s.reach ch e).feeder other = s.feeder other := by
  rw [State.reach, State.raiseIf_eq]
  exact s.feeder_putFeeder_ne e.feeder h

theorem State.queue_reach (s : State) (ch : Channel) (e : ChannelEffect) :
    (s.reach ch e).queue = s.queue.filter fun o => !(o.feeder == ch && e.unqueued) := by
  rw [State.reach, State.raiseIf_eq]
  cases h : e.unqueued with
  | false => simp
  | true => simp [bne]

theorem State.set?_reach (s : State) (ch : Channel) (e : ChannelEffect) (i : SetSlot) :
    (s.reach ch e).set? i = (s.set? i).map (SetRec.receive e.feeder.account e.moves i) := by
  rw [State.reach, State.raiseIf_eq]
  have received : ({ s with sets := s.receiving e.feeder.account e.moves } : State).set? i
      = (s.set? i).map (SetRec.receive e.feeder.account e.moves i) := by
    cases e.moves with
    | none => exact Option.map_id'.symm
    | some p =>
      by_cases same : i = p.1
      · subst same
        refine (s.set?_putSet_self p.1 _).trans (congrArg (Option.map · (s.set? p.1)) (funext fun r => ?_))
        exact (if_pos rfl).symm
      · refine (s.set?_putSet_ne _ same).trans ?_
        have kept : SetRec.receive e.feeder.account (some p) i = id := funext fun r => if_neg (Ne.symm same)
        rw [kept, Option.map_id_fun, id]
  exact received

theorem Raises.reach (s : State) (ch : Channel) (e : ChannelEffect) :
    Raises s (s.reach ch e) fun f => f = .feederFault ∧ e.faults = true := by
  have written : Raises s { s with
      sets := s.receiving e.feeder.account e.moves
      feeders := s.feeders.set ch e.feeder
      queue := if e.unqueued then s.queue.filter (·.feeder != ch) else s.queue } fun _ => False :=
    .nothing rfl rfl rfl rfl
  exact (written.trans (.raiseIf _ e.faults .feederFault)).congr fun f => by simp [and_comm]

/-! ## What an effect reads -/

/-- What the work on a channel reads of the state: its record and its order, the minute, straps and pins. -/
structure SameSeen (ch : Channel) (s t : State) : Prop where
  feeder : t.feeder ch = s.feeder ch
  order : t.orderFor ch = s.orderFor ch
  clock : t.clock = s.clock
  straps : t.straps = s.straps
  feedback : t.pins.feedback = s.pins.feedback

theorem SameSeen.reach (s : State) {ch other : Channel} (e : ChannelEffect) (h : other ≠ ch) :
    SameSeen other s (s.reach ch e) := by
  have beside := s.reach_beside ch e
  refine ⟨s.feeder_reach_ne e h, ?_, by rw [beside], by rw [beside], by rw [beside]⟩
  rw [State.orderFor, State.queue_reach, List.find?_filter]
  refine congrArg (s.queue.find? ·) (funext fun o => ?_)
  by_cases own : o.feeder = ch
  · have apart : ch ≠ other := h.symm
    simp [own, apart]
  · simp [own, beq_eq_decide]

section Seen

variable {ch : Channel} {s t : State} (h : SameSeen ch s t)
include h

theorem SameSeen.active : t.active ch = s.active ch := by rw [State.active, h.straps]; rfl

theorem SameSeen.fbClosed (d : Side) : t.fbClosed ch d = s.fbClosed ch d := by
  rw [State.fbClosed, h.straps, h.feedback]; rfl

theorem SameSeen.flushMoves : t.flushMoves ch = s.flushMoves ch := by rw [State.flushMoves, h.feeder]; rfl

theorem SameSeen.now : t.now = s.now := by rw [State.now, h.clock]; rfl

theorem SameSeen.lastAfter (o : TransferOutcome) (r : Reason) : t.lastAfter ch o r = s.lastAfter ch o r := by
  rw [State.lastAfter, h.order, h.now, h.feeder]; rfl

theorem SameSeen.emptied (st : FeederState) (cause : FaultCause) (o : TransferOutcome) (r : Reason) :
    t.emptied ch st cause o r = s.emptied ch st cause o r := by
  rw [State.emptied, h.flushMoves, h.lastAfter, h.feeder]; rfl

theorem SameSeen.leaving : t.leaving ch = s.leaving ch := by rw [State.leaving, h.emptied, h.flushMoves]; rfl

theorem SameSeen.derived : t.derived ch = s.derived ch := by
  rw [State.derived, h.feeder, h.fbClosed, h.fbClosed]; rfl

theorem SameSeen.rederiving : t.rederiving ch = s.rederiving ch := by
  rw [State.rederiving, h.derived, h.emptied, h.flushMoves, h.feeder, h.fbClosed, h.fbClosed]; rfl

theorem SameSeen.watchTimer (ms : Nat) (d : Side) : t.watchTimer ch ms d = s.watchTimer ch ms d := by
  rw [State.watchTimer, State.disagrees, h.active, h.feeder, h.fbClosed]; rfl

theorem SameSeen.settling (done : Option Channel) : t.settling done ch = s.settling done ch := by
  rw [State.settling, h.rederiving, h.feeder, h.active, h.watchTimer, h.watchTimer]; rfl

end Seen

/-! ## The work of a reset on several channels -/

/-- Effects written one after the other. -/
def State.reachAll (E : Channel → ChannelEffect) (l : List Channel) (s : State) : State :=
  l.foldl (fun t ch => t.reach ch (E ch)) s

/-- Work that is an effect on its own channel, and reads no other, has on distinct channels the effects it has
at the start. -/
theorem foldl_eq_reachAll {op : State → Channel → State} {E : State → Channel → ChannelEffect}
    (each : ∀ s ch, op s ch = s.reach ch (E s ch)) (own : ∀ s t ch, SameSeen ch s t → E t ch = E s ch)
    (l : List Channel) (distinct : l.Nodup) (s : State) : l.foldl op s = s.reachAll (E s) l := by
  induction l generalizing s with
  | nil => rfl
  | cons c rest ih =>
    obtain ⟨fresh, distinct⟩ := List.nodup_cons.mp distinct
    rw [List.foldl_cons, ih distinct, each]
    refine List.foldl_ext _ _ _ fun t ch hch => ?_
    have apart : ch ≠ c := fun e => fresh (e ▸ hch)
    rw [own s (s.reach c (E s c)) ch (.reach s _ apart)]

section ReachAll

variable (E : Channel → ChannelEffect) (l : List Channel) (s : State)

theorem State.reachAll_cons (c : Channel) : s.reachAll E (c :: l) = (s.reach c (E c)).reachAll E l := rfl

theorem State.reachAll_beside : s.reachAll E l = { s with
    sets := (s.reachAll E l).sets, feeders := (s.reachAll E l).feeders, queue := (s.reachAll E l).queue
    flags := (s.reachAll E l).flags, snapshot := (s.reachAll E l).snapshot } := by
  induction l generalizing s with
  | nil => rfl
  | cons c rest ih =>
    rw [State.reachAll_cons]
    refine (ih _).trans ?_
    generalize (s.reach c (E c)).reachAll E rest = u
    rw [State.reach_beside]

theorem State.feeder_reachAll (ch : Channel) :
    (s.reachAll E l).feeder ch = if ch ∈ l then (E ch).feeder else s.feeder ch := by
  induction l generalizing s with
  | nil => rfl
  | cons c rest ih =>
    rw [State.reachAll_cons, ih]
    by_cases e : ch = c
    · subst e
      simp [State.feeder_reach_self]
    · simp [State.feeder_reach_ne s _ e, e]

theorem State.queue_reachAll :
    (s.reachAll E l).queue = s.queue.filter fun o => !(l.contains o.feeder && (E o.feeder).unqueued) := by
  induction l generalizing s with
  | nil => simp [State.reachAll]
  | cons c rest ih =>
    rw [State.reachAll_cons, ih, State.queue_reach, List.filter_filter]
    refine List.filter_congr fun o _ => ?_
    by_cases e : o.feeder = c
    · subst e
      cases (E o.feeder).unqueued <;> simp
    · simp [e]

theorem State.set?_reachAll (i : SetSlot) : (s.reachAll E l).set? i = (s.set? i).map fun r =>
    l.foldl (fun r ch => r.receive (E ch).feeder.account (E ch).moves i) r := by
  induction l generalizing s with
  | nil => simp [State.reachAll]
  | cons c rest ih =>
    rw [State.reachAll_cons, ih, State.set?_reach, Option.map_map]
    rfl

theorem Raises.reachAll : Raises s (s.reachAll E l) fun f => f = .feederFault ∧ ∃ ch ∈ l, (E ch).faults = true := by
  induction l generalizing s with
  | nil => exact (nothing rfl rfl rfl rfl).congr (by simp)
  | cons c rest ih =>
    exact ((reach s c (E c)).trans (ih _)).congr fun f => by
      rw [← and_or_left]
      simp only [List.mem_cons, or_and_right, exists_or, exists_eq_left]

end ReachAll

end Sys2Proof.Machine
end

section
/-! The five steps of a reset (R65, R66, R119, R175 to R178), channel by channel. -/

namespace Sys2Proof.Machine

/-! ## The end of a transfer (R113) -/

/-- A feeder after the end of its transfer, before the monitor watches it again (R113). -/
def State.endedFeeder (s : State) (t : Transfer) (st : FeederState) (cause : FaultCause) (o : TransferOutcome)
    (r : Reason) : Feeder :=
  { s.feeder t.feeder with
    state := st, cause := cause, last := some ⟨t.target, o, r, s.now⟩
    drive := if st = .fault then ⟨false, false⟩ else (s.feeder t.feeder).drive }

/-- A feeder's disagreement timer of a side when the monitor watches it anew: it stays, starts at 0 or is
cancelled (R62). -/
def State.timerOf (s : State) (ch : Channel) (f : Feeder) (d : Side) : Option Nat :=
  if s.active ch && f.watched && (f.drive.get d != s.fbClosed ch d) then some ((f.watch.get d).getD 0) else none

/-- A feeder's record when the monitor watches it anew. -/
def State.watchedFrom (s : State) (ch : Channel) (f : Feeder) : Feeder :=
  { f with watch := ⟨s.timerOf ch f .A, s.timerOf ch f .B⟩ }

theorem State.watchTimer_zero (s : State) (ch : Channel) (d : Side) :
    s.watchTimer ch 0 d = s.timerOf ch (s.feeder ch) d := rfl

theorem State.rewatch_zero (s : State) (ch : Channel) :
    s.rewatch ch 0 = s.putFeeder ch (s.watchedFrom ch (s.feeder ch)) := rfl

theorem State.rewatch_putFeeder (s : State) (ch : Channel) (f : Feeder) :
    (s.putFeeder ch f).rewatch ch 0 = s.putFeeder ch (s.watchedFrom ch f) := by
  rw [State.rewatch_zero, State.putFeeder_putFeeder, State.feeder_putFeeder_self]
  rfl

theorem State.rewatch_raise (s : State) (ch : Channel) (ms : Nat) (f : Flag) :
    (s.raise f).rewatch ch ms = (s.rewatch ch ms).raise f := by
  unfold State.raise
  split
  · rename_i h
    exact (if_pos h).symm
  · rename_i h
    exact (if_neg h).symm

theorem State.raiseIf_putFeeder (s : State) (c : Bool) (g : Flag) (ch : Channel) (f : Feeder) :
    (s.raiseIf c g).putFeeder ch f = (s.putFeeder ch f).raiseIf c g := by
  cases c with
  | false => rfl
  | true =>
    simp only [State.raiseIf_true, State.raise]
    split
    · rename_i h
      exact (if_pos h).symm
    · rename_i h
      exact (if_neg h).symm

/-- The sequencer's record reads the feeder's bound sets and the minute (R121). -/
theorem State.outcomeOf_congr {s u : State} {t : Transfer}
    (bound : (u.feeder t.feeder).bound = (s.feeder t.feeder).bound) (now : u.now = s.now) (o : TransferOutcome)
    (r : Reason) : u.outcomeOf t o r = s.outcomeOf t o r := by
  have sets : u.boundSet t.feeder = s.boundSet t.feeder := funext fun d => by
    rw [State.boundSet, bound]; rfl
  rw [State.outcomeOf, sets, now]
  rfl

theorem State.endTransfer_eq (s : State) (t : Transfer) (st : FeederState) (cause : FaultCause) (o : TransferOutcome)
    (r : Reason) (f : Flag) : s.endTransfer t st cause o r [f] =
      ({ s.putFeeder t.feeder (s.watchedFrom t.feeder (s.endedFeeder t st cause o r)) with
          lastOutcome := some (s.outcomeOf t o r), transfer := none } : State).raise f := by
  have driven : (if st = .fault then s.driveOpen t.feeder else s) = s.putFeeder t.feeder
      { s.feeder t.feeder with drive := if st = .fault then ⟨false, false⟩ else (s.feeder t.feeder).drive } := by
    split
    · rfl
    · exact (s.putFeeder_feeder t.feeder).symm
  unfold State.endTransfer
  rw [driven]
  simp only [State.recordLast, State.feeder_putFeeder_self, State.putFeeder_putFeeder, State.now_putFeeder]
  rw [List.foldl_cons, List.foldl_nil, State.rewatch_raise]
  refine congrArg (State.raise · f) ?_
  have bound : ((s.putFeeder t.feeder (s.endedFeeder t st cause o r)).feeder t.feeder).bound
      = (s.feeder t.feeder).bound := by rw [State.feeder_putFeeder_self]; rfl
  have outcome := State.outcomeOf_congr bound rfl o r
  have watched := congrArg (fun u : State => { u with lastOutcome := some (s.outcomeOf t o r), transfer := none })
    (s.rewatch_putFeeder t.feeder (s.endedFeeder t st cause o r))
  refine Eq.trans ?_ watched
  rw [← outcome]
  rfl

/-! ## The transfer in hand at a reset (R119, R176) -/

theorem State.reach_putFeeder (s : State) (ch : Channel) (e : ChannelEffect) {f : Feeder}
    (account : f.account = e.feeder.account) : (s.reach ch e).putFeeder ch f = s.reach ch { e with feeder := f } := by
  unfold State.reach
  rw [State.raiseIf_putFeeder, ← account]
  simp only [State.putFeeder, Vector.set_set]

theorem State.watchedFrom_congr {s u : State} (straps : u.straps = s.straps)
    (feedback : u.pins.feedback = s.pins.feedback) (ch : Channel) (f : Feeder) :
    u.watchedFrom ch f = s.watchedFrom ch f := by
  have active : u.active ch = s.active ch := by rw [State.active, straps]; rfl
  have closed (d : Side) : u.fbClosed ch d = s.fbClosed ch d := by rw [State.fbClosed, straps, feedback]; rfl
  have timer (d : Side) : u.timerOf ch f d = s.timerOf ch f d := by rw [State.timerOf, active, closed]; rfl
  rw [State.watchedFrom, timer, timer]
  rfl

/-- A feeder whose transfer a reset ends, before the monitor watches it: re-derived, with the end recorded. -/
def State.resetFeeder (s : State) (t : Transfer) : Feeder :=
  { (s.rederiving t.feeder).feeder with last := some ⟨t.target, .failed, .reset, s.now⟩ }

/-- A feeder made FAULT has both drives open (R63). -/
theorem State.rederiving_drive (s : State) (ch : Channel) (h : (s.rederiving ch).feeder.state = .fault) :
    (s.rederiving ch).feeder.drive = ⟨false, false⟩ := by
  unfold State.rederiving at h ⊢
  split at h
  · rename_i fault; rw [if_pos fault]; rfl
  · contradiction

theorem State.resetTransfer_none {s : State} (h : s.transfer = none) : s.resetTransfer = s := by
  rw [State.resetTransfer, h]

/-- The transfer in hand ends FAILED with reason RESET, its feeder re-derived and watched again. -/
theorem State.resetTransfer_some {s : State} {t : Transfer} (h : s.transfer = some t) :
    s.resetTransfer = ({ s.reach t.feeder { s.rederiving t.feeder with
          feeder := s.watchedFrom t.feeder (s.resetFeeder t) } with
        lastOutcome := some (s.outcomeOf t .failed .reset), transfer := none } : State).raise .transferFailed := by
  unfold State.resetTransfer
  rw [h]
  dsimp only
  rw [State.endTransfer_eq, State.rederive_eq]
  have account : (s.rederiving t.feeder).feeder.account = (s.feeder t.feeder).account := by
    unfold State.rederiving
    split <;> rfl
  have bound : (s.rederiving t.feeder).feeder.bound = (s.feeder t.feeder).bound := by
    unfold State.rederiving
    split <;> rfl
  have now : (s.reach t.feeder (s.rederiving t.feeder)).now = s.now := by rw [State.reach_beside]; rfl
  have ended : (s.reach t.feeder (s.rederiving t.feeder)).endedFeeder t
      ((s.reach t.feeder (s.rederiving t.feeder)).feeder t.feeder).state
      ((s.reach t.feeder (s.rederiving t.feeder)).feeder t.feeder).cause .failed .reset = s.resetFeeder t := by
    rw [State.endedFeeder, State.feeder_reach_self, now]
    have drive : (if (s.rederiving t.feeder).feeder.state = .fault then ⟨false, false⟩
        else (s.rederiving t.feeder).feeder.drive) = (s.rederiving t.feeder).feeder.drive := by
      split
      · rename_i fault; exact (s.rederiving_drive t.feeder fault).symm
      · rfl
    rw [drive]
    rfl
  have outcome : (s.reach t.feeder (s.rederiving t.feeder)).outcomeOf t .failed .reset = s.outcomeOf t .failed .reset :=
    State.outcomeOf_congr (by rw [State.feeder_reach_self, bound]) now _ _
  have watched : (s.reach t.feeder (s.rederiving t.feeder)).watchedFrom t.feeder (s.resetFeeder t)
      = s.watchedFrom t.feeder (s.resetFeeder t) := by
    rw [State.reach_beside]
    exact State.watchedFrom_congr rfl rfl _ _
  rw [ended, outcome, watched, State.reach_putFeeder]
  exact rfl

/-- A feeder at the end of the transfer in hand, if it is its own, before the monitor watches it. -/
def State.base (s : State) (ch : Channel) : Feeder :=
  match s.transfer with
  | some t => if t.feeder = ch then s.resetFeeder t else s.feeder ch
  | none => s.feeder ch

theorem State.base_held {s : State} {t : Transfer} (h : s.transfer = some t) : s.base t.feeder = s.resetFeeder t := by
  rw [State.base, h]
  exact if_pos rfl

theorem State.base_other {s : State} {ch : Channel} (h : s.transfer.map (·.feeder) ≠ some ch) :
    s.base ch = s.feeder ch := by
  unfold State.base
  cases held : s.transfer with
  | none => rfl
  | some t =>
    refine if_neg fun e => h ?_
    rw [held, ← e]
    rfl

/-- The effect of the end of a transfer on its feeder. -/
def State.resetEffect (s : State) (t : Transfer) : ChannelEffect :=
  { s.rederiving t.feeder with feeder := s.watchedFrom t.feeder (s.resetFeeder t) }

theorem State.rederiving_state (s : State) (ch : Channel) : (s.rederiving ch).feeder.state = s.derived ch := by
  unfold State.rederiving
  split
  · rename_i fault; exact fault.symm
  · rfl

theorem State.rederiving_faults (s : State) (ch : Channel) :
    (s.rederiving ch).faults = decide (s.derived ch = .fault) := by
  unfold State.rederiving
  split
  · rename_i fault; exact (decide_eq_true fault).symm
  · rename_i settled; exact (decide_eq_false settled).symm

theorem State.rederiving_unqueued (s : State) (ch : Channel) :
    (s.rederiving ch).unqueued = decide (s.derived ch = .fault) := by
  unfold State.rederiving
  split
  · rename_i fault; exact (decide_eq_true fault).symm
  · rename_i settled; exact (decide_eq_false settled).symm

theorem State.rederiving_moves (s : State) (ch : Channel) :
    (s.rederiving ch).moves = if s.derived ch = .fault then s.flushMoves ch else none := by
  unfold State.rederiving
  split <;> rfl

section ResetTransfer

variable {s : State}

theorem State.resetTransfer_raises (s : State) : Raises s s.resetTransfer fun f =>
    (f = .transferFailed ∧ s.transfer.isSome = true)
      ∨ f = .feederFault ∧ ∃ ch, s.transfer.map (·.feeder) = some ch ∧ s.derived ch = .fault := by
  cases held : s.transfer with
  | none =>
    rw [State.resetTransfer_none held]
    exact (Raises.nothing rfl rfl rfl rfl).congr (by simp)
  | some t =>
    rw [State.resetTransfer_some held]
    have reached := Raises.reach s t.feeder (s.resetEffect t)
    have ended : Raises (s.reach t.feeder (s.resetEffect t)) { s.reach t.feeder (s.resetEffect t) with
        lastOutcome := some (s.outcomeOf t .failed .reset), transfer := none } fun _ => False :=
      .nothing rfl rfl rfl rfl
    refine ((reached.trans ended).trans (.raise _ .transferFailed)).congr fun f => ?_
    have faults : (s.resetEffect t).faults = true ↔ s.derived t.feeder = .fault := by
      rw [State.resetEffect, s.rederiving_faults, decide_eq_true_iff]
    simp [faults, or_comm]

/-- The end of the transfer in hand reaches one feeder, its order, sets, and the sequencer's own records. -/
theorem State.resetTransfer_beside (s : State) : s.resetTransfer = { s with
    sets := s.resetTransfer.sets, feeders := s.resetTransfer.feeders, queue := s.resetTransfer.queue
    flags := s.resetTransfer.flags, snapshot := s.resetTransfer.snapshot, transfer := none
    lastOutcome := s.resetTransfer.lastOutcome } := by
  cases held : s.transfer with
  | none =>
    rw [State.resetTransfer_none held]
    exact congrArg (fun t => { s with transfer := t }) held
  | some t =>
    rw [State.resetTransfer_some held, State.raise_eq, State.reach_beside]

theorem State.lastOutcome_resetTransfer {t : Transfer} (held : s.transfer = some t) :
    s.resetTransfer.lastOutcome = some (s.outcomeOf t .failed .reset) := by
  rw [State.resetTransfer_some held, State.raise_eq]

theorem State.feeder_resetTransfer (s : State) (ch : Channel) : s.resetTransfer.feeder ch =
    if s.transfer.map (·.feeder) = some ch then s.watchedFrom ch (s.base ch) else s.feeder ch := by
  cases held : s.transfer with
  | none => rw [State.resetTransfer_none held]; rfl
  | some t =>
    have reached : s.resetTransfer.feeder ch = (s.reach t.feeder (s.resetEffect t)).feeder ch := by
      rw [State.resetTransfer_some held, State.raise_eq]
      rfl
    rw [reached]
    by_cases own : ch = t.feeder
    · subst own
      rw [State.feeder_reach_self, State.base_held held]
      exact (if_pos rfl).symm
    · rw [State.feeder_reach_ne _ _ own, if_neg]
      simpa using Ne.symm own

theorem State.queue_resetTransfer (alone : ∀ t, s.transfer = some t → s.orderFor t.feeder = none) :
    s.resetTransfer.queue = s.queue := by
  cases held : s.transfer with
  | none => rw [State.resetTransfer_none held]
  | some t =>
    rw [State.resetTransfer_some held, State.raise_eq]
    refine (State.queue_reach s t.feeder (s.resetEffect t)).trans (List.filter_eq_self.mpr fun o ho => ?_)
    have other := List.find?_eq_none.mp (alone t held) o ho
    simp [other]

theorem State.set?_resetTransfer (unmoved : ∀ t, s.transfer = some t → s.flushMoves t.feeder = none) (i : SetSlot) :
    s.resetTransfer.set? i = s.set? i := by
  cases held : s.transfer with
  | none => rw [State.resetTransfer_none held]
  | some t =>
    have moves : (s.resetEffect t).moves = none := by
      rw [State.resetEffect, State.rederiving_moves, unmoved t held, ite_self]
    have reached := State.set?_reach s t.feeder (s.resetEffect t) i
    rw [moves] at reached
    rw [State.resetTransfer_some held, State.raise_eq]
    exact reached.trans Option.map_id'

end ResetTransfer

/-! ## Channels made inactive (R66, R177) -/

/-- The channels that newly set straps make inactive, in their order. -/
def leavingChannels (old new : Straps) : List Channel :=
  if new.feeders8 && !old.feeders8 then upperChannels else []

theorem leavingChannels_nodup (old new : Straps) : (leavingChannels old new).Nodup := by
  unfold leavingChannels
  split
  · decide
  · exact List.nodup_nil

/-- They are the channels that are active under the old straps and inactive under the new ones (R45). -/
theorem leavingChannels_eq (s t : State) :
    leavingChannels s.straps t.straps = channels.filter fun ch => s.active ch && !t.active ch := by
  unfold leavingChannels State.active
  cases s.straps.feeders8 <;> cases t.straps.feeders8 <;> decide

theorem State.sampleStraps_eq (s : State) (x : Straps) :
    s.sampleStraps x = { s.reachAll s.leaving (leavingChannels s.straps x) with straps := x } := by
  unfold State.sampleStraps leavingChannels
  dsimp only
  split
  · rw [foldl_eq_reachAll (E := State.leaving) State.deactivate_eq (fun _ _ _ h => h.leaving) _ (by decide)]
  · rfl

/-! ## The other feeders (R65, R71, R176) -/

theorem arrange_perm {α : Type} (n : Nat) (l : List α) : (arrange n l).Perm l := by
  induction l generalizing n with
  | nil => exact .refl _
  | cons x rest ih =>
    have inside : n % (rest.length + 1) ≤ (arrange (n / (rest.length + 1)) rest).length := by
      rw [(ih _).length_eq]
      exact Nat.le_of_lt_succ (Nat.mod_lt _ (Nat.succ_pos _))
    exact (List.perm_insertIdx x _ inside).trans ((ih _).cons x)

/-- The order of step 4: the feeders flushed together as drawn, then the others in channel order. -/
def State.settlingOrder (s : State) (done : Option Channel) : List Channel :=
  (s.drawOrder (s.flushedTogether done)).1 ++ channels.filter fun ch => !(s.flushedTogether done).contains ch

theorem State.drawOrder_perm (s : State) (l : List Channel) : (s.drawOrder l).1.Perm l := by
  rw [State.drawOrder_eq]
  split
  · exact arrange_perm _ l
  · exact .refl l

/-- Every channel comes once in step 4. -/
theorem State.settlingOrder_perm (s : State) (done : Option Channel) : (s.settlingOrder done).Perm channels := by
  have listed : channels.filter (fun ch => (s.flushedTogether done).contains ch) = s.flushedTogether done := by
    refine List.filter_congr fun ch _ => ?_
    rw [Bool.eq_iff_iff, List.contains_iff_mem, State.flushedTogether, List.mem_filter]
    exact and_iff_right (mem_channels ch)
  have both := List.filter_append_perm (fun ch => (s.flushedTogether done).contains ch) channels
  rw [listed] at both
  exact ((s.drawOrder_perm _).append_right _).trans both

theorem State.rederiveRest_eq (s : State) (done : Option Channel) : s.rederiveRest done =
    ({ s with choices := (s.drawOrder (s.flushedTogether done)).2.choices } : State).reachAll (s.settling done)
      (s.settlingOrder done) := by
  have each := foldl_eq_reachAll (E := fun s => s.settling done) (fun s ch => s.settle_eq done ch)
    (fun _ _ _ h => h.settling done) (s.settlingOrder done)
    ((s.settlingOrder_perm done).nodup_iff.mpr channels_nodup) (s.drawOrder (s.flushedTogether done)).2
  refine Eq.trans each ?_
  rw [State.drawOrder_state]
  rfl

end Sys2Proof.Machine
end

section
/-! RESET_N's rise and Restart as a whole (R176, R178): the state that step 5 scans. -/

namespace Sys2Proof.Machine

/-! ## The steps -/

/-- The state after step 1, with RESET_N high (R176). -/
def State.ported (s : State) : State := ({ s with pins := { s.pins with resetN := true } } : State).resetPort

/-- The state after step 2. -/
def State.untransferred (s : State) : State := s.ported.resetTransfer

/-- The state after step 3. -/
def State.sampled (s : State) (x : Straps) : State := s.untransferred.sampleStraps x

/-- The channel of the transfer in hand. -/
def State.heldChannel (s : State) : Option Channel := s.transfer.map (·.feeder)

/-- The state after step 4, which step 5 scans. -/
def State.resetBy (s : State) (x : Straps) : State := (s.sampled x).rederiveRest s.heldChannel

/-- The part with RESET_N high and the straps sampled. -/
def State.underStraps (s : State) (x : Straps) : State :=
  { s with pins := { s.pins with resetN := true }, straps := x }

theorem execResetNRise_eq {s : State} (low : s.pins.resetN = false) (x : Straps) :
    exec (.resetNRise x) s = .next (s.resetBy x).scan := by
  refine congrArg Host.Outcome.next (if_neg ?_)
  rw [low]
  decide

theorem State.sampled_same (s : State) : s.sampled s.straps = s.untransferred := by
  have straps : s.untransferred.straps = s.straps := by
    rw [State.untransferred, State.resetTransfer_beside]; rfl
  rw [State.sampled, State.sampleStraps_eq, straps, leavingChannels, Bool.and_not_self, if_neg Bool.false_ne_true,
    ← straps]
  rfl

/-- Restart resets the port without sampling the straps (R178). -/
theorem execRestart_eq {s : State} (hopen : s.portOpen = true) :
    exec .restart s = .next { (s.resetBy s.straps).scan with sdo := .low } := by
  have high : s.pins.resetN = true := (Bool.and_eq_true_iff.mp hopen).2
  have ported : s.ported = s.resetPort := by
    rw [State.ported, ← high]
  rw [State.resetBy, State.sampled_same, State.untransferred, ported]
  exact congrArg Host.Outcome.next (if_pos hopen)

theorem State.untransferred_beside (s : State) : s.untransferred = { s.ported with
    sets := s.untransferred.sets, feeders := s.untransferred.feeders, queue := s.untransferred.queue
    flags := s.untransferred.flags, snapshot := s.untransferred.snapshot, transfer := none
    lastOutcome := s.untransferred.lastOutcome } :=
  s.ported.resetTransfer_beside

theorem State.sampled_eq (s : State) (x : Straps) : s.sampled x =
    { s.untransferred.reachAll s.untransferred.leaving (leavingChannels s.straps x) with straps := x } := by
  have straps : s.untransferred.straps = s.straps := by rw [State.untransferred_beside]; rfl
  rw [State.sampled, State.sampleStraps_eq, straps]

theorem State.sampled_beside (s : State) (x : Straps) : s.sampled x = { s.ported with
    sets := (s.sampled x).sets, feeders := (s.sampled x).feeders, queue := (s.sampled x).queue
    flags := (s.sampled x).flags, snapshot := (s.sampled x).snapshot, transfer := none
    lastOutcome := s.untransferred.lastOutcome, straps := x } := by
  have eq := s.sampled_eq x
  generalize s.sampled x = r at eq ⊢
  rw [eq, State.reachAll_beside, State.untransferred_beside]

theorem State.resetBy_eq (s : State) (x : Straps) : s.resetBy x =
    ({ s.sampled x with
        choices := ((s.sampled x).drawOrder ((s.sampled x).flushedTogether s.heldChannel)).2.choices }
        : State).reachAll ((s.sampled x).settling s.heldChannel) ((s.sampled x).settlingOrder s.heldChannel) :=
  State.rederiveRest_eq _ _

theorem State.resetBy_beside (s : State) (x : Straps) : s.resetBy x = { s.ported with
    sets := (s.resetBy x).sets, feeders := (s.resetBy x).feeders, queue := (s.resetBy x).queue
    flags := (s.resetBy x).flags, snapshot := (s.resetBy x).snapshot, transfer := none
    lastOutcome := s.untransferred.lastOutcome, straps := x
    choices := ((s.sampled x).drawOrder ((s.sampled x).flushedTogether s.heldChannel)).2.choices } := by
  have eq := s.resetBy_eq x
  generalize s.resetBy x = v at eq ⊢
  generalize ((s.sampled x).drawOrder ((s.sampled x).flushedTogether s.heldChannel)).2.choices = count at eq ⊢
  rw [eq, State.reachAll_beside, State.sampled_beside]

/-! ## What the transfer's feeder has in a wired state (R84, R104) -/

section Wired

variable {s : State} (wired : s.Wired)
include wired

theorem State.Wired.held_state {t : Transfer} (held : s.transfer = some t) : (s.feeder t.feeder).state = .transfer :=
  (wired.holds t.feeder).mpr (by rw [held]; rfl)

/-- A feeder in TRANSFER has no order (R85). -/
theorem State.Wired.held_alone {t : Transfer} (held : s.transfer = some t) : ∀ o ∈ s.queue, o.feeder ≠ t.feeder := by
  rintro o ho same
  obtain ⟨_, dark | closed⟩ := wired.orders o ho
  · rw [same, wired.held_state held] at dark; cases dark
  · rw [same, wired.held_state held] at closed; cases closed

theorem State.Wired.held_noOrder {t : Transfer} (held : s.transfer = some t) : s.orderFor t.feeder = none :=
  List.find?_eq_none.mpr fun o ho => by simpa using wired.held_alone held o ho

/-- A feeder in TRANSFER is energised from no set, so that a flush moves nothing (R47, R53). -/
theorem State.Wired.held_unmoved {t : Transfer} (held : s.transfer = some t) : s.flushMoves t.feeder = none := by
  rw [State.flushMoves, Feeder.energisedSet, wired.held_state held]

/-- An inactive channel is DARK, so that no transfer is in hand for it (R45). -/
theorem State.Wired.held_active {ch : Channel} (held : s.heldChannel = some ch) : s.active ch = true := by
  by_contra inactive
  have dark := wired.inactive ch (by simpa using inactive)
  rw [(wired.holds ch).mpr held] at dark
  cases dark

theorem State.Wired.queue_untransferred : s.untransferred.queue = s.queue :=
  State.queue_resetTransfer (s := s.ported) fun _ held => wired.held_noOrder held

theorem State.Wired.set?_untransferred (i : SetSlot) : s.untransferred.set? i = s.set? i :=
  State.set?_resetTransfer (s := s.ported) (fun _ held => wired.held_unmoved held) i

end Wired

/-! ## Feeder by feeder -/

/-- The channels that the sampling makes inactive (R66). -/
theorem mem_leavingChannels (s : State) (x : Straps) (ch : Channel) :
    ch ∈ leavingChannels s.straps x ↔ s.active ch = true ∧ (s.underStraps x).active ch = false := by
  rw [show leavingChannels s.straps x = leavingChannels s.straps (s.underStraps x).straps from rfl,
    leavingChannels_eq, List.mem_filter, Bool.and_eq_true, Bool.not_eq_true']
  exact and_iff_right (mem_channels ch)

theorem State.feeder_untransferred (s : State) (ch : Channel) : s.untransferred.feeder ch =
    if s.heldChannel = some ch then s.ported.watchedFrom ch (s.ported.base ch) else s.feeder ch :=
  s.ported.feeder_resetTransfer ch

theorem State.feeder_sampled (s : State) (x : Straps) (ch : Channel) : (s.sampled x).feeder ch =
    if ch ∈ leavingChannels s.straps x then (s.untransferred.leaving ch).feeder else s.untransferred.feeder ch := by
  rw [State.sampled_eq]
  exact State.feeder_reachAll _ _ _ ch

theorem State.feeder_resetBy (s : State) (x : Straps) (ch : Channel) :
    (s.resetBy x).feeder ch = ((s.sampled x).settling s.heldChannel ch).feeder := by
  rw [State.resetBy_eq, State.feeder_reachAll, if_pos]
  exact ((s.sampled x).settlingOrder_perm s.heldChannel).mem_iff.mpr (mem_channels ch)

theorem State.active_sampled (s : State) (x : Straps) (ch : Channel) :
    (s.sampled x).active ch = (s.underStraps x).active ch := by
  rw [State.sampled_beside]; rfl

section Channels

variable {s : State} {x : Straps} {ch : Channel}

/-- A channel that is inactive under the new straps is left as step 3 left it. -/
theorem State.feeder_resetBy_inactive (inactive : (s.underStraps x).active ch = false)
    (other : s.heldChannel ≠ some ch) : (s.resetBy x).feeder ch = (s.sampled x).feeder ch := by
  rw [State.feeder_resetBy, State.settling, if_neg (Ne.symm other), State.active_sampled, inactive,
    if_neg Bool.false_ne_true]

theorem State.feeder_sampled_stays (stays : ¬ ch ∈ leavingChannels s.straps x) (other : s.heldChannel ≠ some ch) :
    (s.sampled x).feeder ch = s.feeder ch := by
  rw [State.feeder_sampled, if_neg stays, State.feeder_untransferred, if_neg other]

variable (wired : s.Wired)
include wired

theorem State.Wired.queue_sampled (x : Straps) :
    (s.sampled x).queue = s.queue.filter fun o => !(leavingChannels s.straps x).contains o.feeder := by
  rw [State.sampled_eq]
  refine (State.queue_reachAll _ _ _).trans ?_
  rw [wired.queue_untransferred]
  refine List.filter_congr fun o _ => ?_
  rw [State.leaving, Bool.and_true]

/-- A feeder that stays active, beside the transfer's, is re-derived from what it was (R176). -/
theorem State.Wired.seen_sampled (stays : ¬ ch ∈ leavingChannels s.straps x) (other : s.heldChannel ≠ some ch) :
    SameSeen ch (s.underStraps x) (s.sampled x) := by
  refine ⟨State.feeder_sampled_stays stays other, ?_, ?_, ?_, ?_⟩
  · rw [State.orderFor, wired.queue_sampled, List.find?_filter]
    refine congrArg (s.queue.find? ·) (funext fun o => ?_)
    by_cases own : o.feeder = ch
    · subst own; simp [stays]
    · simp [own, beq_eq_decide]
  all_goals rw [State.sampled_beside]; rfl

theorem State.Wired.feeder_resetBy_rederived (active : (s.underStraps x).active ch = true)
    (other : s.heldChannel ≠ some ch) :
    (s.sampled x).settling s.heldChannel ch = (s.underStraps x).rederiving ch := by
  have stays : ¬ ch ∈ leavingChannels s.straps x := fun leaves => by
    rw [((mem_leavingChannels s x ch).mp leaves).2] at active
    cases active
  rw [State.settling, if_neg (Ne.symm other), State.active_sampled, if_pos active,
    (wired.seen_sampled stays other).rederiving]

end Channels

/-! ## The record of the transfer's feeder -/

theorem derivedState_watched (drive : PerSide Bool) (a b : Bool) {f : Feeder} (state : f.state = derivedState drive a b)
    (noCheck : f.openCheck = none) : f.watched = true ↔ f.state ≠ .fault := by
  unfold Feeder.watched
  rw [noCheck]
  have inHand : f.state ≠ .transfer := by
    rw [state]
    unfold derivedState
    split
    · split
      · nofun
      · split <;> nofun
    · nofun
  cases h : f.state with
  | transfer => exact absurd h inHand
  | _ => simp

theorem State.rederiving_watch (s : State) (ch : Channel) : (s.rederiving ch).feeder.watch = ⟨none, none⟩ := by
  unfold State.rederiving
  split <;> rfl

theorem State.rederiving_openCheck (s : State) (ch : Channel) : (s.rederiving ch).feeder.openCheck = none := by
  unfold State.rederiving
  split <;> rfl

/-- A timer of the transfer's feeder starts at 0 where its drive and feedback disagree (R62). -/
theorem State.timerOf_reset (s u : State) (t : Transfer) {timers : PerSide (Option Nat)} {d : Side}
    (zero : (timers.get d).getD 0 = 0) : u.timerOf t.feeder { s.resetFeeder t with watch := timers } d =
      if u.active t.feeder = true ∧ (s.resetFeeder t).state ≠ .fault
        ∧ (s.resetFeeder t).drive.get d ≠ u.fbClosed t.feeder d then some 0 else none := by
  have watched : (s.resetFeeder t).watched = true ↔ (s.resetFeeder t).state ≠ .fault :=
    derivedState_watched _ _ _ (s.rederiving_state t.feeder) (s.rederiving_openCheck t.feeder)
  rw [State.timerOf, zero]
  refine if_congr ?_ rfl rfl
  rw [Bool.and_eq_true, Bool.and_eq_true, bne_iff_ne, and_assoc]
  exact and_congr Iff.rfl (and_congr watched Iff.rfl)

/-- The timers step 2 gives the transfer's feeder are at 0 or cancelled. -/
theorem State.timerOf_reset_zero (s u : State) (t : Transfer) (d : Side) :
    (u.timerOf t.feeder (s.resetFeeder t) d).getD 0 = 0 := by
  have noTimers : (s.resetFeeder t).watch = ⟨none, none⟩ := s.rederiving_watch t.feeder
  have start := State.timerOf_reset s u t (timers := ⟨none, none⟩) (d := d) (by cases d <;> rfl)
  rw [← noTimers] at start
  rw [start]
  split <;> rfl

theorem State.feeder_untransferred_held {s : State} {t : Transfer} (held : s.transfer = some t) :
    s.untransferred.feeder t.feeder = s.ported.watchedFrom t.feeder (s.ported.resetFeeder t) := by
  rw [State.feeder_untransferred, if_pos (by rw [State.heldChannel, held]; rfl),
    State.base_held (s := s.ported) held]

/-- After step 2 a feeder differs from the base at most in its disagreement timers. -/
theorem State.feeder_untransferred_base (s : State) (ch : Channel) :
    ∃ timers, s.untransferred.feeder ch = { s.ported.base ch with watch := timers } := by
  rw [State.feeder_untransferred]
  split
  · exact ⟨_, rfl⟩
  · rename_i other
    rw [State.base_other (s := s.ported) other]
    exact ⟨_, rfl⟩

/-- The interval energy after a flush, by what the feeder is energised from (R53). -/
theorem State.flushed_interval (s : State) (ch : Channel) :
    (if (s.flushMoves ch).isSome then 0 else (s.feeder ch).interval)
      = if (s.feeder ch).energisedSet.isSome then 0 else (s.feeder ch).interval := by
  unfold State.flushMoves
  cases (s.feeder ch).energisedSet with
  | none => rfl
  | some i => by_cases some : 0 < (s.feeder ch).interval <;> simp [some]; omega

/-- A channel made inactive is left as step 3 makes it (R66). -/
theorem State.feeder_leaves {s : State} {x : Straps} {ch : Channel}
    (leaves : ch ∈ leavingChannels s.straps x) :
    (s.resetBy x).feeder ch = (s.untransferred.leaving ch).feeder := by
  have sampled : (s.sampled x).feeder ch = (s.untransferred.leaving ch).feeder := by
    rw [State.feeder_sampled, if_pos leaves]
  have inactive : (s.sampled x).active ch = false :=
    (s.active_sampled x ch).trans ((mem_leavingChannels s x ch).mp leaves).2
  have timer (d : Side) : (s.sampled x).watchTimer ch 0 d = none := by
    rw [State.watchTimer, State.disagrees, inactive]
    rfl
  rw [State.feeder_resetBy, State.settling, inactive]
  split
  · rw [timer, timer, sampled]
    rfl
  · rw [if_neg Bool.false_ne_true, sampled]

/-- The disagreement timer of a side of a feeder just re-derived (R62). -/
def State.freshTimer (s : State) (ch : Channel) (f : Feeder) (d : Side) : Option Nat :=
  if f.state ≠ .fault ∧ f.drive.get d ≠ s.fbClosed ch d then some 0 else none

/-- The transfer's feeder, if it stays active, is watched at the polarity sampled (notes/assumptions/23.md). -/
theorem State.feeder_held {s : State} {x : Straps} {t : Transfer} (held : s.transfer = some t)
    (active : (s.underStraps x).active t.feeder = true) :
    (s.resetBy x).feeder t.feeder = { s.ported.resetFeeder t with watch :=
      ⟨(s.underStraps x).freshTimer t.feeder (s.ported.resetFeeder t) .A,
        (s.underStraps x).freshTimer t.feeder (s.ported.resetFeeder t) .B⟩ } := by
  have stays : ¬ t.feeder ∈ leavingChannels s.straps x := fun leaves => by
    rw [((mem_leavingChannels s x _).mp leaves).2] at active
    cases active
  have sampled : (s.sampled x).feeder t.feeder = s.ported.watchedFrom t.feeder (s.ported.resetFeeder t) := by
    rw [State.feeder_sampled, if_neg stays, State.feeder_untransferred_held held]
  have closed (d : Side) : (s.sampled x).fbClosed t.feeder d = (s.underStraps x).fbClosed t.feeder d := by
    rw [State.sampled_beside]; rfl
  have timer (d : Side) : (s.sampled x).timerOf t.feeder (s.ported.watchedFrom t.feeder (s.ported.resetFeeder t)) d
      = (s.underStraps x).freshTimer t.feeder (s.ported.resetFeeder t) d := by
    refine (State.timerOf_reset s.ported (s.sampled x) t ?_).trans (if_congr ?_ rfl rfl)
    · cases d <;> exact s.ported.timerOf_reset_zero s.ported t _
    · rw [closed, (s.active_sampled x t.feeder).trans active]
      exact and_iff_right rfl
  rw [State.feeder_resetBy, State.settling, if_pos (by rw [State.heldChannel, held]; rfl), State.watchTimer_zero,
    State.watchTimer_zero, sampled, timer, timer]
  rfl

section Clauses

variable {s : State} {x : Straps} {ch : Channel} (wired : s.Wired)
include wired

theorem State.Wired.leaving_feeder : (s.untransferred.leaving ch).feeder = { s.ported.base ch with
    state := .dark, cause := .none, drive := ⟨false, false⟩, openCheck := none, watch := ⟨none, none⟩
    interval := if (s.ported.base ch).energisedSet.isSome then 0 else (s.ported.base ch).interval
    last := match s.orderFor ch with
      | some o => some ⟨o.target, .cancelled, .channelInactive, s.now⟩
      | none => (s.ported.base ch).last } := by
  obtain ⟨timers, same⟩ := s.feeder_untransferred_base ch
  have order : s.untransferred.orderFor ch = s.orderFor ch := by
    rw [State.orderFor, wired.queue_untransferred]; rfl
  have now : s.untransferred.now = s.now := by rw [State.untransferred_beside]; rfl
  rw [State.leaving, State.emptied, State.flushed_interval, State.lastAfter, order, now, same]
  rfl


theorem State.Wired.order_other {o : Order} (ho : o ∈ s.queue) : s.heldChannel ≠ some o.feeder := by
  intro same
  cases held : s.transfer with
  | none => rw [State.heldChannel, held] at same; cases same
  | some t =>
    rw [State.heldChannel, held] at same
    exact wired.held_alone held o ho (Option.some.inj same).symm

/-! ## The queue, the notices and the sets -/

omit wired in
theorem contains_leavingChannels (s : State) (x : Straps) (ch : Channel) :
    (leavingChannels s.straps x).contains ch = (s.active ch && !(s.underStraps x).active ch) := by
  rw [Bool.eq_iff_iff, List.contains_iff_mem, mem_leavingChannels, Bool.and_eq_true, Bool.not_eq_true']

/-- An order stays unless its channel is made inactive or its feeder FAULT (R65, R66). -/
theorem State.Wired.queue_resetBy (x : Straps) : (s.resetBy x).queue = s.queue.filter fun o =>
    !(s.active o.feeder && !(s.underStraps x).active o.feeder)
      && decide (((s.resetBy x).feeder o.feeder).state ≠ .fault) := by
  have queue : (s.resetBy x).queue = (s.sampled x).queue.filter fun o =>
      !(((s.sampled x).settlingOrder s.heldChannel).contains o.feeder
        && ((s.sampled x).settling s.heldChannel o.feeder).unqueued) := by
    rw [State.resetBy_eq, State.queue_reachAll]
  rw [queue, wired.queue_sampled, List.filter_filter]
  refine List.filter_congr fun o ho => ?_
  rw [contains_leavingChannels, Bool.and_comm]
  by_cases active : (s.underStraps x).active o.feeder = true
  · have settled := wired.feeder_resetBy_rederived active (wired.order_other ho)
    have listed : ((s.sampled x).settlingOrder s.heldChannel).contains o.feeder = true :=
      List.contains_iff_mem.mpr (((s.sampled x).settlingOrder_perm _).mem_iff.mpr (mem_channels _))
    rw [listed, State.feeder_resetBy, settled, State.rederiving_state, State.rederiving_unqueued]
    simp
  · have stayed : s.active o.feeder = true := (wired.orders o ho).1
    simp [active, stayed]

theorem State.Wired.fault_iff (x : Straps) (ch : Channel) :
    (s.heldChannel = some ch ∧ s.ported.derived ch = .fault)
        ∨ ((s.sampled x).settling s.heldChannel ch).faults = true ↔
      (s.heldChannel = some ch ∧ (s.ported.base ch).state = .fault)
        ∨ ((s.underStraps x).active ch = true ∧ ((s.resetBy x).feeder ch).state = .fault) := by
  by_cases own : s.heldChannel = some ch
  · obtain ⟨t, held, rfl⟩ : ∃ t, s.transfer = some t ∧ t.feeder = ch := Option.map_eq_some_iff.mp own
    have base : (s.ported.base t.feeder).state = s.ported.derived t.feeder := by
      rw [State.base_held (s := s.ported) held]
      exact s.ported.rederiving_state t.feeder
    have settled : ((s.sampled x).settling s.heldChannel t.feeder).faults = false := by
      rw [State.settling, if_pos own.symm]
    have stays (active : (s.underStraps x).active t.feeder = true) :
        ((s.resetBy x).feeder t.feeder).state = s.ported.derived t.feeder := by
      rw [← base, State.feeder_held held active, State.base_held (s := s.ported) held]
    rw [settled, base]
    constructor
    · rintro (fault | none)
      · exact .inl fault
      · cases none
    · rintro (fault | ⟨active, fault⟩)
      · exact .inl fault
      · exact .inl ⟨own, (stays active).symm.trans fault⟩
  · by_cases active : (s.underStraps x).active ch = true
    · have settled := wired.feeder_resetBy_rederived active own
      rw [State.feeder_resetBy, settled, State.rederiving_state, State.rederiving_faults]
      simp [own, active]
    · have settled : ((s.sampled x).settling s.heldChannel ch).faults = false := by
        rw [State.settling, if_neg (Ne.symm own), State.active_sampled, if_neg active]
      simp [own, active, settled]

omit wired in
theorem State.resetBy_raises (s : State) (x : Straps) : Raises s.ported (s.resetBy x) fun f =>
    (f = .transferFailed ∧ s.transfer.isSome = true) ∨ f = .feederFault ∧ ∃ ch,
      (s.heldChannel = some ch ∧ s.ported.derived ch = .fault)
        ∨ ((s.sampled x).settling s.heldChannel ch).faults = true := by
  have transfer := s.ported.resetTransfer_raises
  have leaving : Raises s.untransferred (s.sampled x) fun _ => False := by
    rw [State.sampled_eq]
    have reached := Raises.reachAll s.untransferred.leaving (leavingChannels s.straps x) s.untransferred
    refine (reached.trans (.nothing (t := { s.untransferred.reachAll s.untransferred.leaving
      (leavingChannels s.straps x) with straps := x }) rfl rfl rfl rfl)).congr fun f => ?_
    simp [State.leaving]
  have counted (count : Nat) : Raises (s.sampled x) { s.sampled x with choices := count } fun _ => False :=
    .nothing rfl rfl rfl rfl
  rw [State.resetBy_eq]
  refine ((transfer.trans leaving).trans ((counted _).trans (.reachAll _ _ _))).congr fun f => ?_
  have all (ch : Channel) : ch ∈ (s.sampled x).settlingOrder s.heldChannel :=
    ((s.sampled x).settlingOrder_perm _).mem_iff.mpr (mem_channels ch)
  simp only [or_false, false_or, all, true_and, exists_or, and_or_left, or_assoc]
  rfl

omit wired in
/-- After the port's reset values every notice is heard (R185, R176). -/
theorem State.hears_ported (s : State) (f : Flag) : s.ported.hears f :=
  ⟨rfl, by
    rw [show s.ported.mask = BitVec.allOnes 16 from rfl, BitVec.getLsbD_allOnes]
    exact decide_eq_true f.bit_lt⟩

/-- The flags after a reset: TRANSFER_FAILED for a transfer in hand, FEEDER_FAULT for a feeder made FAULT. -/
theorem State.Wired.flags_resetBy (x : Straps) (f : Flag) : (s.resetBy x).flags.getLsbD f.bit =
    (decide (f = .transferFailed) && s.heldChannel.isSome
      || decide (f = .feederFault) && channels.any fun ch =>
          (s.heldChannel == some ch && decide ((s.ported.base ch).state = .fault))
            || ((s.underStraps x).active ch && decide (((s.resetBy x).feeder ch).state = .fault))) := by
  have clear : s.ported.flags.getLsbD f.bit = false := BitVec.getLsbD_zero
  rw [Bool.eq_iff_iff, (s.resetBy_raises x).flags, clear]
  simp only [wired.fault_iff x]
  simp [s.hears_ported f, State.heldChannel, mem_channels]

omit wired in
/-- Energy a flush of the feeder moves, as a set receives it (R53, R70). -/
theorem SetRec.receive_flushMoves (u : State) (ch : Channel) (a : AccountSlot) (i : SetSlot) (r : SetRec) :
    SetRec.receive a (u.flushMoves ch) i r =
      if (u.feeder ch).energisedSet = some i ∧ 0 < (u.feeder ch).interval then r.carry a (u.feeder ch).interval
      else r := by
  unfold State.flushMoves SetRec.receive
  cases (u.feeder ch).energisedSet with
  | none => simp
  | some j => by_cases some : 0 < (u.feeder ch).interval <;> simp [some]

omit wired in
theorem State.flushMoves_isSome (u : State) (ch : Channel) : (u.flushMoves ch).isSome =
    ((u.feeder ch).energisedSet.isSome && decide (0 < (u.feeder ch).interval)) := by
  unfold State.flushMoves
  cases (u.feeder ch).energisedSet with
  | none => rfl
  | some j => by_cases some : 0 < (u.feeder ch).interval <;> simp [some]

theorem State.Wired.seen_active (active : (s.underStraps x).active ch = true) (other : s.heldChannel ≠ some ch) :
    SameSeen ch (s.underStraps x) (s.sampled x) :=
  wired.seen_sampled (fun leaves => by
    rw [((mem_leavingChannels s x ch).mp leaves).2] at active
    cases active) other

/-- The feeders flushed together, by what they are before the reset and the state the straps give them (R71). -/
theorem State.Wired.flushedTogether_sampled (x : Straps) : (s.sampled x).flushedTogether s.heldChannel =
    channels.filter fun ch => (s.underStraps x).active ch && s.heldChannel != some ch
      && decide ((((s.underStraps x).rederive ch).feeder ch).state = .fault)
      && (s.feeder ch).energisedSet.isSome && decide (0 < (s.feeder ch).interval) := by
  refine List.filter_congr fun ch _ => ?_
  rw [State.active_sampled]
  by_cases own : s.heldChannel = some ch
  · simp [own]
  by_cases active : (s.underStraps x).active ch = true
  · have seen := wired.seen_active active own
    rw [seen.derived, seen.flushMoves, State.flushMoves_isSome, State.rederive_eq, State.feeder_reach_self,
      State.rederiving_state]
    have apart : (some ch != s.heldChannel) = (s.heldChannel != some ch) := bne_comm
    rw [apart, active, Bool.and_true, Bool.true_and, beq_eq_decide, Bool.and_assoc, Bool.and_assoc, Bool.and_assoc]
    rfl
  · simp [active]

/-- A flush of step 3 or 4 as the set receives it, by the feeder at the end of the transfer in hand. -/
def State.flushInto (s : State) (i : SetSlot) (r : SetRec) (ch : Channel) : SetRec :=
  if (s.ported.base ch).energisedSet = some i ∧ 0 < (s.ported.base ch).interval then
    r.carry (s.ported.base ch).account (s.ported.base ch).interval
  else r

omit wired in
theorem State.receive_leaving (s : State) (ch : Channel) (i : SetSlot) (r : SetRec) :
    SetRec.receive (s.untransferred.leaving ch).feeder.account (s.untransferred.leaving ch).moves i r
      = s.flushInto i r ch := by
  obtain ⟨timers, same⟩ := s.feeder_untransferred_base ch
  have account : (s.untransferred.leaving ch).feeder.account = (s.ported.base ch).account := by
    rw [State.leaving, State.emptied, same]
  rw [account, State.flushInto, State.leaving, SetRec.receive_flushMoves, same]
  rfl

theorem State.Wired.receive_together {x : Straps} (together : ch ∈ (s.sampled x).flushedTogether s.heldChannel)
    (i : SetSlot) (r : SetRec) :
    SetRec.receive ((s.sampled x).settling s.heldChannel ch).feeder.account
      ((s.sampled x).settling s.heldChannel ch).moves i r = s.flushInto i r ch := by
  rw [State.flushedTogether, List.mem_filter] at together
  simp only [Bool.and_eq_true, bne_iff_ne, beq_iff_eq, State.active_sampled] at together
  obtain ⟨_, ⟨⟨other, active⟩, fault⟩, _⟩ := together
  have seen := wired.seen_active active (Ne.symm other)
  rw [seen.derived] at fault
  have account : ((s.underStraps x).rederiving ch).feeder.account = (s.feeder ch).account := by
    unfold State.rederiving
    split <;> rfl
  rw [wired.feeder_resetBy_rederived active (Ne.symm other), State.rederiving_moves, if_pos fault, account,
    SetRec.receive_flushMoves, State.flushInto, State.base_other (s := s.ported) (Ne.symm other)]
  rfl

theorem State.Wired.receive_alone {x : Straps} (alone : ¬ ch ∈ (s.sampled x).flushedTogether s.heldChannel) :
    ((s.sampled x).settling s.heldChannel ch).moves = none := by
  by_cases own : s.heldChannel = some ch
  · rw [State.settling, if_pos own.symm]
  by_cases active : (s.underStraps x).active ch = true
  · rw [wired.feeder_resetBy_rederived active own, State.rederiving_moves]
    split
    · rename_i fault
      have seen := wired.seen_active active own
      refine Option.not_isSome_iff_eq_none.mp fun moves => alone ?_
      rw [← seen.derived] at fault
      rw [← seen.flushMoves] at moves
      rw [State.flushedTogether, List.mem_filter, State.active_sampled, active, fault, moves]
      exact ⟨mem_channels ch, by simp [Ne.symm own]⟩
    · rfl
  · rw [State.settling, if_neg (Ne.symm own), State.active_sampled, if_neg active]

/-- A set receives the flushes of step 3 in channel order and then those of step 4 in the order drawn. -/
theorem State.Wired.set?_resetBy (x : Straps) (i : SetSlot) : (s.resetBy x).set? i = (s.set? i).map fun r =>
    (leavingChannels s.straps x ++ ((s.sampled x).drawOrder ((s.sampled x).flushedTogether s.heldChannel)).1).foldl
      (s.flushInto i) r := by
  have sampled : (s.sampled x).set? i = (s.set? i).map fun r =>
      (leavingChannels s.straps x).foldl (s.flushInto i) r := by
    rw [State.sampled_eq]
    refine (State.set?_reachAll _ _ _ i).trans ?_
    rw [wired.set?_untransferred]
    simp only [State.receive_leaving]
  have settled : (s.resetBy x).set? i = ((s.sampled x).set? i).map fun r =>
      ((s.sampled x).settlingOrder s.heldChannel).foldl (fun r ch =>
        r.receive ((s.sampled x).settling s.heldChannel ch).feeder.account
          ((s.sampled x).settling s.heldChannel ch).moves i) r := by
    rw [State.resetBy_eq]
    exact State.set?_reachAll _ _ _ i
  rw [settled, sampled, Option.map_map]
  refine congrArg (Option.map · (s.set? i)) (funext fun r => ?_)
  rw [Function.comp_apply, State.settlingOrder, List.foldl_append, List.foldl_append]
  generalize (leavingChannels s.straps x).foldl (s.flushInto i) r = q
  have drawn := List.foldl_ext _ (s.flushInto i) q fun r ch (hch : ch ∈ ((s.sampled x).drawOrder
    ((s.sampled x).flushedTogether s.heldChannel)).1) =>
      wired.receive_together (((s.sampled x).drawOrder_perm _).mem_iff.mp hch) i r
  rw [drawn]
  refine (List.foldl_ext _ (fun r _ => r) _ fun r ch hch => ?_).trans (List.foldl_fixed _)
  have alone : ¬ ch ∈ (s.sampled x).flushedTogether s.heldChannel := fun together => by
    simp [together] at hch
  rw [wired.receive_alone alone]
  rfl

end Clauses

end Sys2Proof.Machine
end

section
/-! The resets settled: RESET_N's fall and rise and Restart (R175, R176, R178). -/

namespace Sys2Proof.Machine

/-! ## What a reset keeps (R182) -/

/-- `KeepsOtherRecords` beside the count of free choices. -/
def KeepsBesideChoices (s t : State) : Prop := KeepsOtherRecords { s with choices := t.choices } t

theorem KeepsBesideChoices.trans {s t u : State} (first : KeepsBesideChoices s t) (second : KeepsBesideChoices t u) :
    KeepsBesideChoices s u := by
  have counted : KeepsOtherRecords { s with choices := u.choices } { t with choices := u.choices } :=
    { first with choices := rfl }
  exact KeepsOtherRecords.trans counted second

theorem State.keeps_resetBy (s : State) (x : Straps) : KeepsBesideChoices s (s.resetBy x) := by
  have ported : KeepsBesideChoices s s.ported := { KeepsOtherRecords.refl s.ported with }
  have deactivated : FeederWork s.untransferred
      (if x.feeders8 && !s.untransferred.straps.feeders8 then upperChannels.foldl State.deactivate s.untransferred
        else s.untransferred) :=
    .ite (.foldl FeederWork.deactivate _ _) (.refl _)
  have sampled (u : State) : KeepsBesideChoices u { u with straps := x } := { KeepsOtherRecords.refl u with }
  exact (((ported.trans (FeederWork.resetTransfer s.ported).keepsOther).trans deactivated.keepsOther).trans
    (sampled _)).trans (FeederWork.rederiveRest (s.sampled x) s.heldChannel).keepsOther

theorem State.keeps_reset (s : State) (x : Straps) : KeepsBesideChoices s (s.resetBy x).scan :=
  (s.keeps_resetBy x).trans (FeederWork.scan _).keepsOther

theorem State.port_reset (s : State) (x : Straps) : (s.resetBy x).scan.port =
    (.none, BitVec.allOnes 16, none, { s.pins with resetN := true }, x) := by
  rw [(FeederWork.scan _).port, State.resetBy_beside]
  rfl

/-- No snapshot is held after a reset, and the notice of a transfer it ended stands. -/
theorem State.notes_reset (s : State) (x : Straps) : (s.resetBy x).scan.snapshot = none
    ∧ (s.transfer.isSome = true → (s.resetBy x).scan.flags.getLsbD Flag.transferFailed.bit = true) := by
  have raised := s.resetBy_raises x
  obtain ⟨snapshot, flags⟩ := (FeederWork.scan (s.resetBy x)).notes
  refine ⟨snapshot (raised.noSnapshot rfl), fun held => flags _ ((raised.flags .transferFailed).mpr ?_)⟩
  exact .inr ⟨s.hears_ported _, .inl ⟨rfl, held⟩⟩

/-! ## A reset with no order queued -/

theorem State.scan_noOrders {s : State} (h : s.queue = []) : s.scan = s := by
  rw [State.scan, h]
  exact congrArg (fun q => { s with queue := q }) h.symm

theorem State.resetBy_noOrders {s : State} (x : Straps) (h : s.queue = []) : (s.resetBy x).queue = [] := by
  have alone (t : Transfer) : s.ported.orderFor t.feeder = none := by
    rw [State.orderFor, show s.ported.queue = s.queue from rfl, h]; rfl
  have ended : s.untransferred.queue = [] := (State.queue_resetTransfer fun t _ => alone t).trans h
  have sampled : (s.sampled x).queue = [] := by
    rw [State.sampled_eq]
    refine (State.queue_reachAll _ _ _).trans ?_
    rw [ended]; rfl
  rw [State.resetBy_eq]
  refine (State.queue_reachAll _ _ _).trans ?_
  rw [sampled]; rfl

theorem State.lastOutcome_resetBy {s : State} {t : Transfer} (x : Straps) (held : s.transfer = some t) :
    (s.resetBy x).lastOutcome = some (s.outcomeOf t .failed .reset) := by
  rw [State.resetBy_beside]
  exact State.lastOutcome_resetTransfer (s := s.ported) held

theorem State.transfer_resetBy (s : State) (x : Straps) : (s.resetBy x).transfer = none := by
  rw [State.resetBy_beside]

/-! ## The choice of an order (R71) -/

theorem State.choices_resetBy (s : State) (x : Straps) : (s.resetBy x).choices =
    if 2 ≤ ((s.sampled x).flushedTogether s.heldChannel).length then s.choices + 1 else s.choices := by
  have counted : (s.sampled x).choices = s.choices := by rw [State.sampled_beside]; rfl
  rw [State.resetBy_beside, State.drawOrder_eq]
  split
  · exact congrArg (· + 1) counted
  · exact counted

theorem State.drawn_resetBy (s : State) (x : Straps) :
    ((s.sampled x).drawOrder ((s.sampled x).flushedTogether s.heldChannel)).1 =
      if 2 ≤ ((s.sampled x).flushedTogether s.heldChannel).length then
        arrange (Config.pick s.choices) ((s.sampled x).flushedTogether s.heldChannel)
      else (s.sampled x).flushedTogether s.heldChannel := by
  have counted : (s.sampled x).choices = s.choices := by rw [State.sampled_beside]; rfl
  rw [State.drawOrder_eq, counted]
  split <;> rfl

/-! ## The two commands -/

/-- The straps a reset leaves: Restart keeps them, RESET_N's rise stores those sampled (R176, R178). -/
def strapsAfter (s : State) (x : Straps) (c : Instr) : Straps := if c = .restart then s.straps else x

/-- Restart with the port open, or RESET_N's rise from low, scans the state that the steps make. -/
theorem exec_reset {s : State} {x : Straps} {c : Instr}
    (runs : (c = .restart ∧ s.portOpen = true) ∨ (c = .resetNRise x ∧ s.pins.resetN = false)) :
    exec c s = .next (if c = .restart then { (s.resetBy (strapsAfter s x c)).scan with sdo := .low }
      else (s.resetBy (strapsAfter s x c)).scan) := by
  rcases runs with ⟨rfl, hopen⟩ | ⟨rfl, low⟩
  · exact execRestart_eq hopen
  · exact execResetNRise_eq low x

/-- What either reset leaves of the port and keeps of the records. -/
theorem exec_reset_keeps {s : State} {x : Straps} {c : Instr}
    (runs : (c = .restart ∧ s.portOpen = true) ∨ (c = .resetNRise x ∧ s.pins.resetN = false)) :
    ∃ t, exec c s = .next t
      ∧ KeepsOtherRecords { s with sdo := if c = .restart then .low else s.sdo, choices := t.choices } t
      ∧ t.port = (.none, BitVec.allOnes 16, none, { s.pins with resetN := true }, strapsAfter s x c)
      ∧ t.snapshot = none
      ∧ (s.transfer.isSome = true → t.flags.getLsbD Flag.transferFailed.bit = true)
      ∧ (s.queue = [] → t.transfer = none
        ∧ ∀ h, s.transfer = some h → t.lastOutcome = some (s.outcomeOf h .failed .reset)) := by
  have keeps := s.keeps_reset (strapsAfter s x c)
  have port := s.port_reset (strapsAfter s x c)
  obtain ⟨snapshot, failed⟩ := s.notes_reset (strapsAfter s x c)
  have idle (empty : s.queue = []) : (s.resetBy (strapsAfter s x c)).scan.transfer = none
      ∧ ∀ h, s.transfer = some h →
        (s.resetBy (strapsAfter s x c)).scan.lastOutcome = some (s.outcomeOf h .failed .reset) := by
    rw [State.scan_noOrders (State.resetBy_noOrders _ empty)]
    exact ⟨s.transfer_resetBy _, fun h held => State.lastOutcome_resetBy _ held⟩
  rw [exec_reset runs]
  by_cases restart : c = .restart
  · rw [if_pos restart, if_pos restart]
    exact ⟨_, rfl, { keeps with sdo := rfl }, port, snapshot, failed, idle⟩
  · rw [if_neg restart, if_neg restart]
    exact ⟨_, rfl, keeps, port, snapshot, failed, idle⟩

theorem State.feeder_rederive (s : State) (ch : Channel) : (s.rederive ch).feeder ch = (s.rederiving ch).feeder := by
  rw [State.rederive_eq, State.feeder_reach_self]

/-- The feeder at the end of the transfer in hand as the statement writes it. -/
theorem State.base_ported (s : State) (ch : Channel) : (match s.transfer with
    | some h => if h.feeder = ch then
        { ((({ s with pins := { s.pins with resetN := true } } : State).rederive ch).feeder ch) with
          last := some ⟨h.target, .failed, .reset, s.now⟩ }
      else s.feeder ch
    | none => s.feeder ch) = s.ported.base ch := by
  have seen : SameSeen ch { s with pins := { s.pins with resetN := true } } s.ported := ⟨rfl, rfl, rfl, rfl, rfl⟩
  rw [State.base, State.rederive_eq, State.feeder_reach_self, ← seen.rederiving]
  show _ = match s.transfer with
    | some t => if t.feeder = ch then s.ported.resetFeeder t else s.feeder ch
    | none => s.feeder ch
  cases s.transfer with
  | none => rfl
  | some t =>
    by_cases own : t.feeder = ch
    · subst own; rfl
    · exact (if_neg own).trans (if_neg own).symm

/-- Settles O21: the fall, the two resets' frames, and the state the last step scans. -/
theorem resetsClearThePortAndKeepTheRecords : Obligations.ResetsClearThePortAndKeepTheRecords := by
  refine ⟨fun s high => ?fall, fun s low => ?low, fun s x high => ?high, fun s x c runs => ?frame,
    fun s x c wired runs => ?wired⟩
  case fall => exact congrArg Host.Outcome.next (if_pos high)
  case low => exact congrArg Host.Outcome.next (if_neg (by rw [low]; decide))
  case high => exact congrArg Host.Outcome.next (if_pos high)
  case frame =>
    obtain ⟨t, next, keeps, port, snapshot, failed, idle⟩ := exec_reset_keeps runs
    obtain ⟨result, mask, staging, pins, straps⟩ : t.result = .none ∧ t.mask = BitVec.allOnes 16 ∧ t.staging = none
        ∧ t.pins = { s.pins with resetN := true } ∧ t.straps = strapsAfter s x c := by
      simpa only [State.port, Prod.mk.injEq] using port
    refine ⟨t, next, keeps, result, mask, snapshot, staging, straps, pins, failed, fun empty => ?_⟩
    obtain ⟨transfer, outcome⟩ := idle empty
    exact ⟨transfer, fun h held => ⟨_, outcome h held, rfl, rfl, rfl, rfl, rfl, rfl⟩⟩
  case wired =>
    intro held w n leaves base together order
    have bases (ch : Channel) : base ch = s.ported.base ch := s.base_ported ch
    have flushed : (s.sampled (strapsAfter s x c)).flushedTogether s.heldChannel = together :=
      wired.flushedTogether_sampled _
    refine ⟨s.resetBy (strapsAfter s x c), exec_reset runs, fun ch leave => ?leaves, fun ch before after => ?inactive,
      fun ch active other => ?settles, fun ch active own => ?held, ?queue, s.transfer_resetBy _,
      fun h inHand => State.lastOutcome_resetBy _ inHand, fun f => ?flags, ?choices, fun i => ?sets⟩
    case leaves =>
      have leaving := List.contains_iff_mem.mp ((contains_leavingChannels s (strapsAfter s x c) ch).trans leave)
      have left := wired.leaving_feeder (ch := ch)
      rw [← bases] at left
      exact (State.feeder_leaves leaving).trans left
    case inactive =>
      have other : s.heldChannel ≠ some ch := fun own => by
        rw [wired.held_active own] at before
        cases before
      have stays : ¬ ch ∈ leavingChannels s.straps (strapsAfter s x c) := fun leaving => by
        rw [((mem_leavingChannels s _ ch).mp leaving).1] at before
        cases before
      exact (State.feeder_resetBy_inactive after other).trans (State.feeder_sampled_stays stays other)
    case settles =>
      have settled := congrArg ChannelEffect.feeder (wired.feeder_resetBy_rederived active other)
      exact ((s.feeder_resetBy _ ch).trans settled).trans (State.feeder_rederive _ ch).symm
    case held =>
      obtain ⟨t, inHand, rfl⟩ := Option.map_eq_some_iff.mp own
      have watched := State.feeder_held inHand active
      rw [← State.base_held (s := s.ported) inHand, ← bases] at watched
      exact watched
    case queue => exact wired.queue_resetBy _
    case flags =>
      have flags := wired.flags_resetBy (strapsAfter s x c) f
      rw [show s.ported.base = base from (funext bases).symm] at flags
      exact flags
    case choices => rw [← flushed]; exact s.choices_resetBy _
    case sets =>
      have left : leavingChannels s.straps (strapsAfter s x c) = channels.filter leaves := leavingChannels_eq s n
      have drawn := s.drawn_resetBy (strapsAfter s x c)
      have into : s.flushInto i = fun r ch => if (base ch).energisedSet = some i ∧ 0 < (base ch).interval then
          r.carry (base ch).account (base ch).interval else r := by
        rw [show base = s.ported.base from funext bases]
        rfl
      have sets := wired.set?_resetBy (strapsAfter s x c) i
      rw [left, drawn, into, flushed] at sets
      exact sets

end Sys2Proof.Machine
end

section
/-! The figures of an evaluation (R34 to R39, R41), and the interval expiry that makes one (R31, R32). -/

namespace Sys2Proof.Machine

/-! ## Sums over a list -/

/-- A sum over the entries that pass a test is a sum in which the others count 0. -/
theorem sum_map_filter {α : Type} (p : α → Bool) (f : α → Nat) (l : List α) :
    ((l.filter p).map f).sum = (l.map fun x => if p x then f x else 0).sum := by
  induction l with
  | nil => rfl
  | cons x rest ih =>
    rw [List.filter_cons]
    by_cases h : p x = true
    · simp [h, ih]
    · simp [h, ih]

/-! ## The record (R36 to R39, R41) -/

/-- The rate between two points of a curve, the points read from their list (R37). -/
theorem Curve.rateAt_eq (c : Curve) (load : Nat) : c.rateAt load =
    let fi := min load 1000
    let k := min (fi / 100) 9
    c.points.toList.getD k 0
      + (c.points.toList.getD (k + 1) 0 - c.points.toList.getD k 0) * (fi - 100 * k) / 100 := by
  have point (k : Nat) (hk : k < 11) : c.points.toList.getD k 0 = c.points[k] := by
    simp [List.getD_eq_getElem?_getD, hk]
  dsimp only
  rw [point _ (by omega), point _ (by omega)]
  rfl

/-- The burn of an evaluation (R37, R38). -/
theorem SetRec.evaluatedBurn_eq (r : SetRec) (l : List (AccountSlot × Nat)) (c : Curve) (secs : Nat) :
    r.evaluatedBurn l c secs =
      (r.remainder + (if c.complete then c.rateAt (loadOf (collectedOf l) secs r.rating) else 0) * secs) / 3600 :=
  rfl

/-- An evaluation writes no set but its own. -/
theorem State.set?_evaluate_ne (s : State) {i j : SetSlot} (other : j ≠ i) (secs : Nat) :
    (s.evaluate i secs).1.set? j = s.set? j := by
  cases found : s.set? i with
  | none => rw [State.evaluate_none found]
  | some r =>
    have frame := State.evaluate_frame found secs
    have collected := s.collectFeeders_eq i secs
    generalize s.collectFeeders i secs = u at frame collected
    have same : u.set? j = s.set? j := by rw [collected]; rfl
    rw [frame]
    exact (State.set?_putSet_ne u _ other).trans same

/-- Settles O29, by the record that the stages make of the set's. -/
theorem evaluationWritesTheSetRecord : Obligations.EvaluationWritesTheSetRecord := by
  intro s i r secs found _ _
  have rate := Curve.rateAt_eq s.curves[r.curve]
  refine ⟨?burn, ?record, fun j other => s.set?_evaluate_ne other secs⟩
  case burn =>
    rw [State.evaluate_eq found]
    dsimp only
    rw [SetRec.evaluatedBurn_eq, rate]
    rfl
  case record =>
    rw [State.set?_evaluate_self found, SetRec.evaluated_eq]
    dsimp only
    rw [rate]
    rfl

/-! ## The contribution list (R34) -/

/-- The energy a list of entries holds under an account. -/
def heldFor (l : List (AccountSlot × Nat)) (a : AccountSlot) : Nat := ((l.filter fun p => p.1 == a).map (·.2)).sum

@[simp] theorem heldFor_nil (a : AccountSlot) : heldFor [] a = 0 := rfl

@[simp] theorem heldFor_cons (p : AccountSlot × Nat) (l : List (AccountSlot × Nat)) (a : AccountSlot) :
    heldFor (p :: l) a = (if p.1 = a then p.2 else 0) + heldFor l a := by
  unfold heldFor
  by_cases h : p.1 = a
  · simp [h]
  · simp [h]

theorem heldFor_absent {l : List (AccountSlot × Nat)} {a : AccountSlot} (absent : a ∉ l.map (·.1)) :
    heldFor l a = 0 := by
  have none : l.filter (fun p => p.1 == a) = [] := by
    rw [List.filter_eq_nil_iff]
    intro p hp e
    exact absent (List.mem_map.mpr ⟨p, hp, by simpa using e⟩)
  rw [heldFor, none]
  rfl

/-- Entries as the Burn Unit holds them: each account once, each amount in range (R34, R68). -/
structure Entries (l : List (AccountSlot × Nat)) : Prop where
  once : (l.map (·.1)).Nodup
  amounts : ∀ p ∈ l, Carried p

theorem Entries.tail {p : AccountSlot × Nat} {l : List (AccountSlot × Nat)} (h : Entries (p :: l)) : Entries l :=
  ⟨(List.nodup_cons.mp h.once).2, fun q hq => h.amounts q (List.mem_cons_of_mem p hq)⟩

theorem Entries.heldFor_le {l : List (AccountSlot × Nat)} (h : Entries l) (a : AccountSlot) : heldFor l a ≤ max32 := by
  induction l with
  | nil => exact Nat.zero_le _
  | cons p rest ih =>
    have amount := h.amounts p List.mem_cons_self
    have rest_le := ih h.tail
    rw [heldFor_cons]
    split
    · rename_i own
      have fresh : p.1 ∉ rest.map (·.1) := (List.nodup_cons.mp h.once).1
      rw [heldFor_absent (own ▸ fresh)]
      exact amount.2
    · omega

theorem Entries.addEntry {l : List (AccountSlot × Nat)} (h : Entries l) {a : AccountSlot} {e : Nat}
    (amount : Carried (a, e)) : Entries (addEntry l a e) :=
  ⟨addEntry_nodup h.once a e, addEntry_amounts h.amounts amount⟩

/-- Energy joins the entry at the front of a list if that is the account's, else the rest of the list. -/
theorem addEntry_cons {p : AccountSlot × Nat} {l : List (AccountSlot × Nat)} (fresh : p.1 ∉ l.map (·.1))
    (a : AccountSlot) (e : Nat) :
    addEntry (p :: l) a e = if p.1 = a then (a, satAdd max32 p.2 e) :: l else p :: addEntry l a e := by
  unfold addEntry
  by_cases own : p.1 = a
  · have others : l.map (fun q => if q.1 = a then (a, satAdd max32 q.2 e) else q) = l := by
      conv_rhs => rw [← List.map_id l]
      refine List.map_congr_left fun q hq => if_neg fun same => fresh ?_
      exact List.mem_map.mpr ⟨q, hq, same.trans own.symm⟩
    simp [own, others]
  · simp only [List.any_cons, beq_eq_false_iff_ne.mpr own, Bool.false_or, if_neg own, List.map_cons, List.cons_append]
    split <;> rfl

/-- Energy that joins under an account is added to what the list holds for it, saturating (R34). -/
theorem heldFor_addEntry {l : List (AccountSlot × Nat)} (h : (l.map (·.1)).Nodup) {e : Nat} (fits : e ≤ max32)
    (b a : AccountSlot) :
    heldFor (addEntry l b e) a = if b = a then min max32 (heldFor l a + e) else heldFor l a := by
  induction l with
  | nil => simp [addEntry, fits]
  | cons p rest ih =>
    obtain ⟨fresh, once⟩ := List.nodup_cons.mp h
    rw [addEntry_cons fresh]
    by_cases own : p.1 = b
    · subst own
      by_cases same : p.1 = a
      · subst same
        simp [heldFor_absent fresh, satAdd]
      · simp [same]
    · rw [if_neg own, heldFor_cons, heldFor_cons, ih once]
      by_cases same : b = a
      · subst same
        simp [own]
      · simp [same]

/-- The interval energy a feeder gives to a set's list under an account (R34). -/
def State.givenFor (s : State) (i : SetSlot) (a : AccountSlot) (ch : Channel) : Nat :=
  if s.suppliedBy i ch && (s.feeder ch).account == a then (s.feeder ch).interval else 0

theorem State.sum_givenFor (s : State) (i : SetSlot) (a : AccountSlot) : (channels.map (s.givenFor i a)).sum =
    ((channels.filter fun ch => s.suppliedBy i ch && (s.feeder ch).account == a).map
      fun ch => (s.feeder ch).interval).sum :=
  (sum_map_filter _ _ _).symm

section Collect

variable {s : State} {i : SetSlot} (short : ∀ ch, (s.feeder ch).interval ≤ 16777215)
include short

theorem Entries.addFeeder {l : List (AccountSlot × Nat)} (h : Entries l) (ch : Channel) :
    Entries (s.addFeeder i l ch) := by
  have fits := short ch
  unfold State.addFeeder
  split
  · rename_i joins
    rw [Bool.and_eq_true, decide_eq_true_iff] at joins
    exact h.addEntry ⟨joins.2, by dsimp only; omega⟩
  · exact h

theorem Entries.heldFor_addFeeder {l : List (AccountSlot × Nat)} (h : Entries l) (ch : Channel) (a : AccountSlot) :
    heldFor (s.addFeeder i l ch) a = min max32 (heldFor l a + s.givenFor i a ch) := by
  have fits : (s.feeder ch).interval ≤ max32 := (short ch).trans (by decide)
  have held := Nat.min_eq_right (h.heldFor_le a)
  unfold State.addFeeder State.givenFor
  by_cases supplied : s.suppliedBy i ch = true
  · by_cases energy : 0 < (s.feeder ch).interval
    · rw [if_pos (by simp [supplied, energy]), heldFor_addEntry h.once fits]
      by_cases own : (s.feeder ch).account = a
      · simp [supplied, own]
      · simp [own, held]
    · simp [Nat.eq_zero_of_not_pos energy, held]
  · simp [supplied, held]

/-- The feeders of a list of channels are collected one after the other (R34, step 2). -/
theorem Entries.collect {l : List (AccountSlot × Nat)} (h : Entries l) (chs : List Channel) :
    Entries (chs.foldl (s.addFeeder i) l) ∧ ∀ a, heldFor (chs.foldl (s.addFeeder i) l) a
      = min max32 (heldFor l a + (chs.map (s.givenFor i a)).sum) := by
  induction chs generalizing l with
  | nil => exact ⟨h, fun a => (Nat.min_eq_right (h.heldFor_le a)).symm⟩
  | cons ch rest ih =>
    obtain ⟨entries, held⟩ := ih (h.addFeeder short ch)
    refine ⟨entries, fun a => ?_⟩
    rw [List.foldl_cons, held, h.heldFor_addFeeder short, List.map_cons, List.sum_cons]
    omega

end Collect

/-- The carried overflow joins under the idle account (R34, step 3). -/
theorem Entries.addOverflow {l : List (AccountSlot × Nat)} (h : Entries l) {r : SetRec} (fits : r.overflow ≤ max32) :
    Entries (addOverflow r l) ∧ ∀ a, heldFor (addOverflow r l) a
      = min max32 (heldFor l a + if r.idle = a then r.overflow else 0) := by
  have held (a : AccountSlot) := Nat.min_eq_right (h.heldFor_le a)
  unfold Machine.addOverflow
  by_cases energy : 0 < r.overflow
  · rw [if_pos energy]
    refine ⟨h.addEntry ⟨energy, fits⟩, fun a => ?_⟩
    rw [heldFor_addEntry h.once fits]
    by_cases own : r.idle = a
    · simp [own]
    · simp [own, held]
  · rw [if_neg energy]
    exact ⟨h, fun a => by simp [Nat.eq_zero_of_not_pos energy, held]⟩

/-- The contribution list holds the carried entries, the feeders' energy and the overflow, by account (R34). -/
theorem SetRec.InRange.contributions {s : State} {i : SetSlot} {r : SetRec} (range : r.InRange)
    (short : ∀ ch, (s.feeder ch).interval ≤ 16777215) :
    Entries (s.contributions i r) ∧ ∀ a, heldFor (s.contributions i r) a
      = min max32 (heldFor r.carried a + (channels.map (s.givenFor i a)).sum
          + if r.idle = a then r.overflow else 0) := by
  have carried : Entries r.carried := ⟨range.oneEntry, range.amounts⟩
  obtain ⟨collected, held⟩ := carried.collect (i := i) short channels
  obtain ⟨entries, whole⟩ := collected.addOverflow range.overflow
  refine ⟨entries, fun a => ?_⟩
  rw [State.contributions, whole, held]
  omega

/-- Settles O30: the list is collected entry by entry, and each feeder is written once. -/
theorem evaluationCollectsEnergyByAccount : Obligations.EvaluationCollectsEnergyByAccount := by
  intro s i r secs found range short _
  obtain ⟨entries, held⟩ := range.contributions (i := i) short
  refine ⟨entries.once, fun a => ?held, fun p hp => (entries.amounts p hp).1, fun ch => ?feeder⟩
  case held =>
    have sums := held a
    rw [State.sum_givenFor] at sums
    exact sums
  case feeder =>
    rw [State.feeder_evaluate found, State.feeder_collectFeeders]
    rfl

/-! ## The interval expiry (R31, R32) -/

theorem exec_intervalExpiry (s : State) (i : SetSlot) : exec (.intervalExpiry i) s = execIntervalExpiry i s := rfl

/-- Settles O28, by whether the set's interval is due. -/
theorem intervalExpiryEvaluatesASet : Obligations.IntervalExpiryEvaluatesASet := by
  refine ⟨fun s i r found running expiring => ?due, fun s i undue => ?undue⟩
  case due =>
    rw [exec_intervalExpiry, execIntervalExpiry, found]
    simp only [running, expiring, Bool.and_self, if_true]
  case undue =>
    rw [exec_intervalExpiry, execIntervalExpiry]
    cases found : s.set? i with
    | none => rfl
    | some r =>
      have idle : (r.running && r.expiring) = false := Bool.and_eq_false_iff.mpr (undue r found)
      simp [idle]

end Sys2Proof.Machine
end

section
/-! Committed load and headroom (R43, R44), and how a take moves a demand from set to set (R105). -/

namespace Sys2Proof.Machine

/-! ## The terms of a committed load -/

/-- The demand of the transfer in hand towards a set, as R43 states it. -/
theorem State.transferDemandOn_eq (s : State) (i : SetSlot) : s.transferDemandOn i =
    ((s.transfer.filter fun t => (s.feeder t.feeder).bound.get t.target == some i).map
      fun t => (s.feeder t.feeder).demand).getD 0 := by
  unfold State.transferDemandOn
  cases s.transfer with
  | none => rfl
  | some t =>
    rw [Option.filter_some]
    dsimp only
    split <;> rfl

theorem State.transferDemandOn_none {s : State} (h : s.transfer = none) (i : SetSlot) : s.transferDemandOn i = 0 := by
  rw [State.transferDemandOn, h]

theorem State.transferDemandOn_some {s : State} {t : Transfer} (h : s.transfer = some t) (i : SetSlot) :
    s.transferDemandOn i = if s.boundSet t.feeder t.target = some i then (s.feeder t.feeder).demand else 0 := by
  rw [State.transferDemandOn, h]
  exact if_congr beq_iff_eq rfl rfl

/-- An active feeder's demand counts against the set it is energised from (R43). -/
theorem State.demandOn_active {s : State} {ch : Channel} (active : s.active ch = true) (i : SetSlot) :
    s.demandOn i ch = if (s.feeder ch).energisedSet = some i then (s.feeder ch).demand else 0 := by
  simp [State.demandOn, active]

/-- The last demands on a set of the feeders other than one (R43). -/
def State.othersOn (s : State) (i : SetSlot) (ch : Channel) : Nat := ((channels.erase ch).map (s.demandOn i)).sum

theorem State.committed_eq (s : State) (i : SetSlot) (ch : Channel) :
    s.committed i = s.demandOn i ch + s.othersOn i ch + s.transferDemandOn i := by
  rw [State.othersOn, List.sum_map_erase _ (mem_channels ch)]
  rfl

theorem State.othersOn_congr {s t : State} {i : SetSlot} {ch : Channel}
    (same : ∀ c, c ≠ ch → t.demandOn i c = s.demandOn i c) : t.othersOn i ch = s.othersOn i ch := by
  refine congrArg List.sum (List.map_congr_left fun c hc => same c ?_)
  exact ((channels_nodup.mem_erase_iff).mp hc).1

/-! ## What a take leaves (R105, R107, R110) -/

/-- A feeder that a take from DARK closes at once is ON the target; any other is in TRANSFER, with the transfer
towards the target in hand. -/
def State.TakenTo (t : State) (ch : Channel) (d : Side) : Prop :=
  ((t.feeder ch).state = .on d ∧ t.transfer = none)
    ∨ (t.feeder ch).state = .transfer ∧ ∃ x, t.transfer = some x ∧ x.feeder = ch ∧ x.target = d

/-- The other feeders' states stand. -/
def State.OtherStates (s t : State) (ch : Channel) : Prop := ∀ c, c ≠ ch → (t.feeder c).state = (s.feeder c).state

theorem State.OtherStates.trans {s t u : State} {ch : Channel} (a : s.OtherStates t ch) (b : t.OtherStates u ch) :
    s.OtherStates u ch := fun c other => (b c other).trans (a c other)

theorem State.OtherStates.putFeeder (s : State) (ch : Channel) (f : Feeder) : s.OtherStates (s.putFeeder ch f) ch :=
  fun _ other => congrArg Feeder.state (State.feeder_putFeeder_ne s f other)

theorem State.OtherStates.flush (s : State) (ch : Channel) : s.OtherStates (s.flush ch) ch := by
  rcases s.flush_cases ch with same | ⟨i, _, _, moved⟩
  · rw [same]; exact fun _ _ => rfl
  · rw [moved]; exact .putFeeder (s.updSet i _) ch _

/-- A feeder's state after a write of its record. -/
theorem State.state_putFeeder {s : State} {ch : Channel} {f : Feeder} {st : FeederState} (h : f.state = st) :
    ((s.putFeeder ch f).feeder ch).state = st := by
  rw [State.feeder_putFeeder_self, h]

theorem State.beginOpening_taken {s : State} {t : Transfer} (state : (s.feeder t.feeder).state = .transfer) (d : Side) :
    s.OtherStates (s.beginOpening t d) t.feeder ∧ (s.beginOpening t d).TakenTo t.feeder t.target := by
  unfold State.beginOpening
  dsimp only
  split
  · exact ⟨.putFeeder s _ _, .inr ⟨State.state_putFeeder state, _, rfl, rfl, rfl⟩⟩
  · exact ⟨.putFeeder s _ _, .inr ⟨State.state_putFeeder state, _, rfl, rfl, rfl⟩⟩

theorem State.endDone_taken (s : State) (t : Transfer) :
    s.OtherStates (s.endDone t) t.feeder ∧ (s.endDone t).TakenTo t.feeder t.target := by
  rw [State.endDone, State.endTransfer_eq]
  refine ⟨fun c other => ?_, .inl ⟨?_, State.raise_transfer _ _⟩⟩
  · rw [State.feeder_raise]
    exact State.OtherStates.putFeeder s t.feeder _ c other
  · rw [State.feeder_raise]
    exact State.state_putFeeder (s := s) rfl

theorem State.beginClosing_taken {s : State} {t : Transfer} (state : (s.feeder t.feeder).state = .transfer) :
    s.OtherStates (s.beginClosing t) t.feeder ∧ (s.beginClosing t).TakenTo t.feeder t.target := by
  unfold State.beginClosing
  dsimp only
  split
  · obtain ⟨later, taken⟩ := State.endDone_taken (s.driveSide t.feeder t.target true)
      { t with phase := .closing, releasing := false, deadline := s.params.closeTimeout }
    exact ⟨.trans (.putFeeder s _ _) later, taken⟩
  · exact ⟨.putFeeder s _ _, .inr ⟨State.state_putFeeder state, _, rfl, rfl, rfl⟩⟩

theorem State.take_taken (s : State) (ch : Channel) (d : Side) :
    s.OtherStates (s.take ch d) ch ∧ (s.take ch d).TakenTo ch d := by
  have before (f : Feeder) := (State.OtherStates.flush s ch).trans (.putFeeder (s.flush ch) ch f)
  unfold State.take
  dsimp only
  split
  · refine And.imp_left (before _).trans (State.beginOpening_taken (t := (s.feeder ch).takenTransfer ch d) ?_ _)
    exact State.state_putFeeder rfl
  · refine And.imp_left (before _).trans (State.beginClosing_taken (t := (s.feeder ch).takenTransfer ch d) ?_)
    exact State.state_putFeeder rfl

/-! ## The demand that a take moves -/

/-- The energised set follows the state and the bound sides (R47). -/
theorem Feeder.energisedSet_congr {f g : Feeder} (state : g.state = f.state) (bound : g.bound = f.bound) :
    g.energisedSet = f.energisedSet := by
  unfold Feeder.energisedSet
  rw [state, bound]

theorem Feeder.energisedSet_on {f : Feeder} {d : Side} (h : f.state = .on d) : f.energisedSet = f.bound.get d := by
  rw [Feeder.energisedSet, h]

theorem State.active_take (s : State) (ch c : Channel) (d : Side) : (s.take ch d).active c = s.active c := by
  rw [ReachesRecords.take s ch d]
  rfl

theorem State.sameTerms_take (s : State) (ch c : Channel) (d : Side) :
    ((s.take ch d).feeder c).sameTerms (s.feeder c) := (FeederWork.take s ch d).keepsOther.feeders c

/-- A take leaves the demand of every other feeder where it was. -/
theorem State.othersOn_take (s : State) (ch : Channel) (d : Side) (i : SetSlot) :
    (s.take ch d).othersOn i ch = s.othersOn i ch := by
  refine State.othersOn_congr fun c other => ?_
  obtain ⟨bound, _, _, _, _, demand⟩ := s.sameTerms_take ch c d
  have state := (s.take_taken ch d).1 c other
  rw [State.demandOn, State.demandOn, s.active_take, Feeder.energisedSet_congr state bound, demand]

/-- From the take on, the feeder's demand counts against the set on the target side, and no other (R43, R105). -/
theorem State.demandOn_take {s : State} {ch : Channel} (active : s.active ch = true) (d : Side) (k : SetSlot) :
    (s.take ch d).demandOn k ch + (s.take ch d).transferDemandOn k
      = if s.boundSet ch d = some k then (s.feeder ch).demand else 0 := by
  obtain ⟨bound, _, _, _, _, demand⟩ := s.sameTerms_take ch ch d
  have stays := s.active_take ch ch d
  rcases (s.take_taken ch d).2 with ⟨state, idle⟩ | ⟨state, x, inHand, rfl, rfl⟩
  · rw [State.demandOn_active (stays.trans active), State.transferDemandOn_none idle, Feeder.energisedSet_on state, bound,
      demand]
    rfl
  · have apart : ((s.take x.feeder x.target).feeder x.feeder).energisedSet = none := by
      rw [Feeder.energisedSet, state]
    rw [State.demandOn_active (stays.trans active), State.transferDemandOn_some inHand, apart, State.boundSet, bound,
      demand, if_neg (Option.some_ne_none k).symm, Nat.zero_add]
    rfl

/-- Settles O33: the demand of the feeder taken is one term of the committed load, before and after. -/
theorem committedLoadFollowsTheTransfer : Obligations.CommittedLoadFollowsTheTransfer := by
  refine ⟨fun s i r => ⟨?terms, ?headroom⟩, fun s ch d i idle active _ target other => ?take⟩
  case terms =>
    rw [sum_map_filter, ← s.transferDemandOn_eq]
    rfl
  case headroom =>
    rw [State.headroom, Nat.cast_mul]
  case take =>
    have before (k : SetSlot) := s.committed_eq k ch
    have after (k : SetSlot) := (s.take ch d).committed_eq k ch
    have moved (k : SetSlot) := State.demandOn_take active d k
    simp only [State.transferDemandOn_none idle, State.demandOn_active active, s.othersOn_take] at before after
    refine ⟨?joins, fun j energised => ?leaves⟩
    case joins =>
      have load := before i
      have joined := (moved i).trans (if_pos target)
      rw [if_neg other] at load
      have := after i
      omega
    case leaves =>
      have apart : s.boundSet ch d ≠ some j := fun same => other (by rw [energised, ← same, target])
      have load := before j
      have left := (moved j).trans (if_neg apart)
      rw [if_pos energised] at load
      have := after j
      omega

end Sys2Proof.Machine
end

section
/-! Begin Curve and Load Curve Point, outcome by outcome (R26, R27, R28). -/

namespace Sys2Proof.Machine

/-- Begin Curve reports the curve and the points it discards, if there are any (R26). -/
theorem discardedBytes_eq (g : Option Staging) : discardedBytes g = match g with
    | some ⟨k, _ :: rest⟩ => be 1 k.val ++ be 1 (rest.length + 1)
    | _ => [0xFF, 0xFF] := by
  rcases g with _ | ⟨k, _ | ⟨p, rest⟩⟩ <;> rfl

/-- As many staged points as a curve has become its live points (R28). -/
theorem livePoints_toList {points : List Nat} (eleven : points.length = 11) : (livePoints points).toList = points := by
  refine List.ext_getElem (by simp [eleven]) fun k _ hk => ?_
  simp [livePoints, hk]

theorem execBeginCurve_opens {s : State} {b : Byte} {c : CurveNo} (hopen : s.portOpen = true)
    (hcurve : b.toNat = c.val) : execBeginCurve b s = .next { s with
      staging := some ⟨c, []⟩, sdo := .low, result := ⟨.ok, byte c.val ++ discardedBytes s.staging⟩ } := by
  rw [execBeginCurve, indexOperand_ok hcurve]
  exact serve_ok hopen

/-- A point stored as it was given answers OK, another one CLAMPED (R27). -/
theorem clampedIf_ne (v given : Nat) : clampedIf (v != given) = if v = given then .ok else .clamped := by
  unfold clampedIf
  by_cases h : v = given
  · simp [h]
  · simp [h]

section Point

variable {s : State} (hopen : s.portOpen = true) (value : BitVec 32)
include hopen

/-- With the staging buffer closed there is no point to load (R27). -/
theorem execLoadCurvePoint_closed (closed : s.staging = none) :
    execLoadCurvePoint value s = .next { s with sdo := .low, result := ⟨.state, []⟩ } := by
  have refused : execLoadCurvePoint value s = serve s (.error .state) := by rw [execLoadCurvePoint, closed]
  exact refused.trans (serve_error hopen)

/-- A point before the eleventh is staged (R27). -/
theorem execLoadCurvePoint_stages {g : Staging} (staging : s.staging = some g) (more : g.points.length < 10) :
    execLoadCurvePoint value s =
      let v := stagedValue g.points value.toNat
      .next { s with
        staging := some ⟨g.curve, g.points ++ [v]⟩, sdo := .low
        result := ⟨if v = value.toNat then .ok else .clamped,
          byte g.curve.val ++ byte g.points.length ++ be 3 v ++ byte 0⟩ } := by
  have incomplete : decide (11 ≤ (g.points ++ [stagedValue g.points value.toNat]).length) = false := by
    rw [decide_eq_false_iff_not, List.length_append, List.length_singleton]
    omega
  rw [execLoadCurvePoint, staging]
  simp only [incomplete, clampedIf_ne]
  exact serve_ok hopen

/-- The eleventh point makes the staged points live and closes the buffer (R28). -/
theorem execLoadCurvePoint_completes {g : Staging} (staging : s.staging = some g) (last : g.points.length = 10) :
    execLoadCurvePoint value s =
      let v := stagedValue g.points value.toNat
      .next { s with
        curves := s.curves.set g.curve ⟨livePoints (g.points ++ [v]), true⟩, staging := none, sdo := .low
        result := ⟨if v = value.toNat then .ok else .clamped,
          byte g.curve.val ++ byte 10 ++ be 3 v ++ byte 1⟩ } := by
  have complete : decide (11 ≤ (g.points ++ [stagedValue g.points value.toNat]).length) = true := by
    rw [decide_eq_true_iff, List.length_append, List.length_singleton]
    omega
  rw [execLoadCurvePoint, staging]
  simp only [complete, clampedIf_ne, last]
  exact serve_ok hopen

end Point

/-- Settles O34, by the state of the staging buffer. -/
theorem curvesAreStagedAndReplacedWhole : Obligations.CurvesAreStagedAndReplacedWhole := by
  refine ⟨fun s b c hopen hcurve => ?begins, fun s v hopen closed => execLoadCurvePoint_closed hopen v closed,
    fun s v g hopen staging => ⟨fun more => ?stages, fun last => ?completes⟩⟩
  case begins =>
    have begins := execBeginCurve_opens hopen hcurve
    rw [discardedBytes_eq] at begins
    exact begins
  case stages => exact execLoadCurvePoint_stages hopen v staging more
  case completes =>
    exact ⟨⟨livePoints (g.points ++ [stagedValue g.points v.toNat]), true⟩, rfl,
      livePoints_toList (by rw [List.length_append, last]; rfl), execLoadCurvePoint_completes hopen v staging last⟩

end Sys2Proof.Machine
end

section
/-! The end of a transfer with any flags (R113, R121, R62), written as one record, one outcome and the notices. -/

namespace Sys2Proof.Machine

/-! ## Several notices -/

/-- Raising flags reaches the flags and the re-raise markers. -/
theorem State.raiseAll_eq (flags : List Flag) (s : State) : flags.foldl State.raise s =
    { s with flags := (flags.foldl State.raise s).flags, snapshot := (flags.foldl State.raise s).snapshot } := by
  induction flags generalizing s with
  | nil => rfl
  | cons f rest ih => rw [List.foldl_cons, ih, s.raise_eq f]

theorem Raises.raiseAll (flags : List Flag) (s : State) : Raises s (flags.foldl State.raise s) (· ∈ flags) := by
  induction flags generalizing s with
  | nil => exact (nothing rfl rfl rfl rfl).congr (by simp)
  | cons f rest ih => exact ((raise s f).trans (ih _)).congr fun g => List.mem_cons.symm

theorem State.rewatch_raiseAll (flags : List Flag) (s : State) (ch : Channel) (ms : Nat) :
    (flags.foldl State.raise s).rewatch ch ms = flags.foldl State.raise (s.rewatch ch ms) := by
  induction flags generalizing s with
  | nil => rfl
  | cons f rest ih => rw [List.foldl_cons, ih, State.rewatch_raise, List.foldl_cons]

/-! ## The end of a transfer -/

/-- The state at the end of a transfer before its flags are raised (R113). -/
def State.ended (s : State) (t : Transfer) (st : FeederState) (cause : FaultCause) (o : TransferOutcome)
    (r : Reason) : State :=
  { s.putFeeder t.feeder (s.watchedFrom t.feeder (s.endedFeeder t st cause o r)) with
    lastOutcome := some (s.outcomeOf t o r), transfer := none }

theorem State.endTransfer_eq_ended (s : State) (t : Transfer) (st : FeederState) (cause : FaultCause)
    (o : TransferOutcome) (r : Reason) (flags : List Flag) :
    s.endTransfer t st cause o r flags = flags.foldl State.raise (s.ended t st cause o r) := by
  have driven : (if st = .fault then s.driveOpen t.feeder else s) = s.putFeeder t.feeder
      { s.feeder t.feeder with drive := if st = .fault then ⟨false, false⟩ else (s.feeder t.feeder).drive } := by
    split
    · rfl
    · exact (s.putFeeder_feeder t.feeder).symm
  unfold State.endTransfer
  rw [driven]
  simp only [State.recordLast, State.feeder_putFeeder_self, State.putFeeder_putFeeder, State.now_putFeeder]
  rw [State.rewatch_raiseAll]
  have bound : ((s.putFeeder t.feeder (s.endedFeeder t st cause o r)).feeder t.feeder).bound
      = (s.feeder t.feeder).bound := by rw [State.feeder_putFeeder_self]; rfl
  have outcome : (s.putFeeder t.feeder (s.endedFeeder t st cause o r)).outcomeOf t o r = s.outcomeOf t o r :=
    State.outcomeOf_congr bound rfl o r
  refine congrArg (flags.foldl State.raise) ?_
  rw [State.ended, ← outcome, ← State.rewatch_putFeeder]
  rfl

section Ended

variable (s : State) (t : Transfer) (st : FeederState) (cause : FaultCause) (o : TransferOutcome) (r : Reason)
  (flags : List Flag)

theorem State.endTransfer_beside : s.endTransfer t st cause o r flags = { s.ended t st cause o r with
    flags := (s.endTransfer t st cause o r flags).flags
    snapshot := (s.endTransfer t st cause o r flags).snapshot } := by
  rw [State.endTransfer_eq_ended, State.raiseAll_eq]

theorem State.feeder_endTransfer_self : (s.endTransfer t st cause o r flags).feeder t.feeder =
    s.watchedFrom t.feeder (s.endedFeeder t st cause o r) := by
  rw [State.endTransfer_beside]
  exact s.feeder_putFeeder_self _ _

theorem State.feeder_endTransfer_ne {ch : Channel} (other : ch ≠ t.feeder) :
    (s.endTransfer t st cause o r flags).feeder ch = s.feeder ch := by
  rw [State.endTransfer_beside]
  exact s.feeder_putFeeder_ne _ other

@[simp] theorem State.transfer_endTransfer : (s.endTransfer t st cause o r flags).transfer = none := by
  rw [State.endTransfer_beside]; rfl

@[simp] theorem State.queue_endTransfer : (s.endTransfer t st cause o r flags).queue = s.queue := by
  rw [State.endTransfer_beside]; rfl

@[simp] theorem State.straps_endTransfer : (s.endTransfer t st cause o r flags).straps = s.straps := by
  rw [State.endTransfer_beside]; rfl

theorem Raises.endTransfer : Raises s (s.endTransfer t st cause o r flags) (· ∈ flags) := by
  rw [State.endTransfer_eq_ended]
  have ended : Raises s (s.ended t st cause o r) fun _ => False := .nothing rfl rfl rfl rfl
  exact (ended.trans (.raiseAll flags _)).congr fun f => by simp

end Ended

/-- Just the notices that are heard are set (R185). -/
theorem Raises.getLsbD_flags {s t : State} {P : Flag → Prop} [DecidablePred P] (h : Raises s t P) (g : Flag) :
    t.flags.getLsbD g.bit =
      (s.flags.getLsbD g.bit || (decide (P g) && s.pins.resetN && s.mask.getLsbD g.bit)) := by
  rw [Bool.eq_iff_iff, h.flags, and_comm (b := P g)]
  simp [State.hears, and_assoc]

/-- The monitor's timer of a side as R62 states it. -/
theorem State.timerOf_eq (s : State) (ch : Channel) (f : Feeder) (d : Side) : s.timerOf ch f d =
    if s.active ch = true ∧ f.isWatched ∧ f.drive.get d ≠ s.fbClosed ch d then some ((f.watch.get d).getD 0)
    else none := by
  refine if_congr ?_ rfl rfl
  rw [Bool.and_eq_true, Bool.and_eq_true, Feeder.watched_iff, bne_iff_ne, and_assoc]

/-- Settles O47: the feeder's record, the outcome and the notices of the end of a transfer. -/
theorem theEndOfATransferIsRecorded : Obligations.TheEndOfATransferIsRecorded := by
  intro s h st cause o why flags
  refine ⟨?feeder, fun ch other => s.feeder_endTransfer_ne h st cause o why flags other,
    s.transfer_endTransfer h st cause o why flags, ?outcome,
    fun g => (Raises.endTransfer s h st cause o why flags).getLsbD_flags g, ?frame⟩
  case feeder =>
    rw [State.feeder_endTransfer_self, State.watchedFrom, State.timerOf_eq, State.timerOf_eq]
    rfl
  case outcome =>
    rw [State.endTransfer_beside]
    rfl
  case frame =>
    have beside := s.endTransfer_beside h st cause o why flags
    generalize s.endTransfer h st cause o why flags = t at beside ⊢
    rw [beside]
    rfl

end Sys2Proof.Machine
end

section
/-! Faults of feeders: the re-derivation, the disagreement timers and the open checks (R59, R62, R63, R65), and the
free order of flushes (R71). -/

namespace Sys2Proof.Machine

/-! ## The monitor watches a feeder anew (R62) -/

/-- A feeder the monitor does not watch has no disagreement timer. -/
theorem State.watchedFrom_unwatched {s : State} {ch : Channel} {f : Feeder} (h : f.watched = false) :
    s.watchedFrom ch f = { f with watch := ⟨none, none⟩ } := by
  simp [State.watchedFrom, State.timerOf, h]

/-- A feeder whose feedbacks agree with its drives has no disagreement timer. -/
theorem State.watchedFrom_agreeing {s : State} {ch : Channel} {f : Feeder}
    (h : ∀ d, f.drive.get d = s.fbClosed ch d) : s.watchedFrom ch f = { f with watch := ⟨none, none⟩ } := by
  simp [State.watchedFrom, State.timerOf, h]

theorem State.fbBothOpen_iff (s : State) (ch : Channel) :
    s.fbBothOpen ch = true ↔ ∀ d, s.fbClosed ch d = false := by
  rw [State.fbBothOpen, Bool.and_eq_true, Bool.not_eq_true', Bool.not_eq_true']
  exact ⟨fun ⟨a, b⟩ d => by cases d; exacts [a, b], fun h => ⟨h .A, h .B⟩⟩

/-- A feeder with both drives open and both feedbacks open has no disagreement timer. -/
theorem State.watchedFrom_open {s : State} {ch : Channel} {f : Feeder} (drive : f.drive = ⟨false, false⟩)
    (opened : s.fbBothOpen ch = true) : s.watchedFrom ch f = { f with watch := ⟨none, none⟩ } :=
  State.watchedFrom_agreeing fun d => by
    rw [drive, (s.fbBothOpen_iff ch).mp opened d]
    cases d <;> rfl

/-! ## A feeder made FAULT (R63) -/

theorem State.flush_feeder (s : State) (ch : Channel) : (s.flush ch).feeder ch = { s.feeder ch with
    interval := if (s.flushMoves ch).isSome then 0 else (s.feeder ch).interval } := by
  rw [State.flush_eq]
  exact s.feeder_putFeeder_self ch _

/-- A fault flushes the feeder, opens it, takes its order out of the queue and raises FEEDER_FAULT. -/
theorem State.faultFeeder_flushed (s : State) (ch : Channel) (cause : FaultCause) : s.faultFeeder ch cause =
    ({ s.flush ch with
      feeders := (s.flush ch).feeders.set ch { (s.flush ch).feeder ch with
        state := .fault, cause := cause, drive := ⟨false, false⟩, openCheck := none, watch := ⟨none, none⟩
        last := s.lastAfter ch .failed .feederFault }
      queue := s.queue.filter (·.feeder != ch) } : State).raise .feederFault := by
  rw [State.faultFeeder_eq, State.reach, State.flush_feeder, State.flush_eq]
  simp only [Vector.set_set, State.emptied, State.raiseIf_true, if_true]

/-- An open check that ends with both feedbacks open leaves no disagreement timer (R59). -/
theorem State.passOpenCheck_eq {s : State} {ch : Channel} (drive : (s.feeder ch).drive = ⟨false, false⟩)
    (opened : s.fbBothOpen ch = true) : s.passOpenCheck ch =
      (s.putFeeder ch { s.feeder ch with openCheck := none, watch := ⟨none, none⟩ }).scan := by
  rw [State.passOpenCheck, State.rewatch_putFeeder]
  exact congrArg (fun f => (s.putFeeder ch f).scan) (State.watchedFrom_open drive opened)

/-- Settles O41: each expiry by whether it is due, and a fault by its one equation. -/
theorem disagreementsAndOpenChecksFaultTheFeeder : Obligations.DisagreementsAndOpenChecksFaultTheFeeder := by
  intro s ch d f watched faulted
  have faults (cause : FaultCause) : s.faultFeeder ch cause = faulted cause := s.faultFeeder_flushed ch cause
  have checkDue : s.active ch = true → f.openCheck = some 0 →
      (s.active ch && (s.feeder ch).openCheck == some 0) = true := fun active out => by
    rw [active, show (s.feeder ch).openCheck = some 0 from out]; rfl
  refine ⟨fun ms active seen differ timer => ⟨fun late => ?expires, fun early => ?waits⟩, fun idle => ?notDue,
    fun active out closed => ?stuck, fun active out _ drive openA openB => ?passes, fun idle => ?noDeadline⟩
  case expires =>
    have due := (s.watchDue_iff ch d).mpr ⟨active, seen, differ, ms, timer, late⟩
    exact congrArg Host.Outcome.next ((if_pos due).trans (faults _))
  case waits =>
    refine congrArg Host.Outcome.next (if_neg fun due => ?_)
    obtain ⟨_, _, _, ms', timer', late⟩ := (s.watchDue_iff ch d).mp due
    cases timer.symm.trans timer'
    omega
  case notDue =>
    refine congrArg Host.Outcome.next (if_neg fun due => ?_)
    obtain ⟨active, seen, differ, ms, timer, _⟩ := (s.watchDue_iff ch d).mp due
    rcases idle with inactive | unseen | agree | noTimer
    · rw [active] at inactive; cases inactive
    · exact unseen seen
    · exact differ agree
    · cases noTimer.symm.trans timer
  case stuck =>
    have notOpen : ¬ s.fbBothOpen ch = true := fun opened => by
      have opened := (s.fbBothOpen_iff ch).mp opened
      rcases closed with a | b
      · rw [opened] at a; cases a
      · rw [opened] at b; cases b
    exact congrArg Host.Outcome.next ((if_pos (checkDue active out)).trans ((if_neg notOpen).trans (faults _)))
  case passes =>
    have opened := (s.fbBothOpen_iff ch).mpr fun d => by cases d; exacts [openA, openB]
    have passed := State.passOpenCheck_eq drive opened
    exact congrArg Host.Outcome.next ((if_pos (checkDue active out)).trans ((if_pos opened).trans passed))
  case noDeadline =>
    refine congrArg Host.Outcome.next (if_neg fun due => ?_)
    rw [Bool.and_eq_true, beq_iff_eq] at due
    rcases idle with inactive | otherwise
    · rw [due.1] at inactive; cases inactive
    · exact otherwise due.2

/-! ## The order of flushes (R71) -/

/-- An element inserted behind a front stands between the front and the rest. -/
theorem insertIdx_append_length {α : Type} (front rest : List α) (x : α) :
    (front ++ rest).insertIdx front.length x = front ++ x :: rest := by
  induction front with
  | nil => rfl
  | cons y front ih => exact congrArg (y :: ·) ih

/-- Every order of a list is one that a number chooses. -/
theorem exists_arrange {α : Type} (l : List α) : ∀ l' : List α, l'.Perm l → ∃ n, arrange n l = l' := by
  induction l with
  | nil => exact fun l' perm => ⟨0, perm.eq_nil.symm⟩
  | cons x rest ih =>
    intro l' perm
    obtain ⟨front, back, rfl⟩ := List.append_of_mem (perm.symm.subset List.mem_cons_self)
    have perm : (front ++ back).Perm rest := (List.perm_middle.symm.trans perm).cons_inv
    obtain ⟨n, arranged⟩ := ih _ perm
    have inside : front.length < rest.length + 1 := by
      have := perm.length_eq
      rw [List.length_append] at this
      omega
    refine ⟨front.length + (rest.length + 1) * n, ?_⟩
    rw [arrange, Nat.add_mul_div_left _ _ (Nat.succ_pos _), Nat.div_eq_of_lt inside, Nat.zero_add,
      Nat.add_mul_mod_self_left, Nat.mod_eq_of_lt inside, arranged]
    exact insertIdx_append_length front back x

theorem exists_arrange_iff_perm {α : Type} (l l' : List α) : (∃ n, arrange n l = l') ↔ l'.Perm l :=
  ⟨fun ⟨n, e⟩ => e ▸ arrange_perm n l, exists_arrange l l'⟩

/-! ## The re-derivation (R65) -/

/-- A feeder whose contacts prove a state takes it; an open check ends and the timers are cancelled. -/
theorem State.rederive_settled {s : State} {ch : Channel} {st : FeederState} (derived : s.derived ch = st)
    (settled : st ≠ .fault) : s.rederive ch = s.putFeeder ch
      { s.feeder ch with state := st, cause := .none, openCheck := none, watch := ⟨none, none⟩ } := by
  subst derived
  exact if_neg settled

theorem State.rederiving_fault {s : State} {ch : Channel} (fault : s.derived ch = .fault) : s.rederiving ch =
    ⟨s.emptied ch .fault (derivedCause (s.fbClosed ch .A) (s.fbClosed ch .B)) .failed .feederFault, s.flushMoves ch,
      true, true⟩ := if_pos fault

/-- Contacts that agree with their drives, and are not both closed, prove a state (R65). -/
theorem derivedState_eq_fault_iff (drive : PerSide Bool) (a b : Bool) : derivedState drive a b = .fault ↔
    drive.a ≠ a ∨ drive.b ≠ b ∨ (a = true ∧ b = true) := by
  obtain ⟨p, q⟩ := drive
  revert p q a b
  decide

/-- Settles O22: the orders `arrange` gives, and the re-derivation by the state it derives. -/
theorem rederivationFollowsTheContacts : Obligations.RederivationFollowsTheContacts := by
  refine ⟨fun l l' => exists_arrange_iff_perm l l', fun s ch => ?_⟩
  intro f a b t settled
  have derived (drive : PerSide Bool) (fbA fbB : Bool) (hd : f.drive = drive) (ha : a = fbA) (hb : b = fbB) :
      s.derived ch = derivedState drive fbA fbB := by rw [← hd, ← ha, ← hb]; rfl
  refine ⟨fun hd ha hb => s.rederive_settled (derived _ _ _ hd ha hb) nofun,
    fun hd ha hb => s.rederive_settled (derived _ _ _ hd ha hb) nofun,
    fun hd ha hb => s.rederive_settled (derived _ _ _ hd ha hb) nofun, fun disagree => ?fault⟩
  case fault =>
    have fault := (derivedState_eq_fault_iff f.drive a b).mpr disagree
    have reached : t = s.reach ch _ := (s.rederive_eq ch).trans (congrArg (s.reach ch) (State.rederiving_fault fault))
    have feeder := s.feeder_reach_self ch
      ⟨s.emptied ch .fault (derivedCause a b) .failed .feederFault, s.flushMoves ch, true, true⟩
    rw [reached, feeder, s.flush_feeder]
    refine ⟨rfl, rfl, ?sets, ?queue, fun o order => ?recorded, fun none => ?unrecorded, fun g => ?flags,
      fun c other => s.feeder_reach_ne _ other⟩
    case sets => rw [State.flush_eq, State.reach, State.raiseIf_eq]; rfl
    case queue => rw [State.reach, State.raiseIf_eq]; rfl
    case recorded => simp only [State.emptied, State.lastAfter, order]
    case unrecorded => simp only [State.emptied, State.lastAfter, none, f]
    case flags => exact ((Raises.reach s ch _).congr fun g => and_iff_left rfl).getLsbD_flags g

end Sys2Proof.Machine
end

section
/-! Bind Side, outcome by outcome (R55), and an energy pulse (R50, R51). -/

namespace Sys2Proof.Machine

/-! ## Bind Side (R55) -/

theorem sideOperand_only_range {b : Byte} (st : Status) (h : sideOperand b = .error st) : st = .range := by
  unfold sideOperand at h
  split at h
  · cases h
  · split at h <;> cases h
    rfl

theorem Feeder.closedSide_eq_some {f : Feeder} {d : Side} : f.closedSide = some d ↔ f.state = .on d := by
  unfold Feeder.closedSide
  cases f.state <;> simp

theorem State.orderTargets_iff {s : State} {ch : Channel} {d : Side} :
    s.orderTargets ch d = true ↔ ∃ o ∈ s.queue, o.feeder = ch ∧ o.target = d := by
  simp [State.orderTargets]

/-- The check of Bind Side that a set given is hired (R55). -/
theorem State.all_hired_iff {s : State} {x : Option SetSlot} :
    (x.all fun j => (s.set? j).isSome) = true ↔ ∀ i, x = some i → (s.set? i).isSome = true := by
  cases x <;> simp

section BindSide

variable {s : State} {cb db ib : Byte} {ch : Channel} (hopen : s.portOpen = true) (hcb : cb.toNat = ch.val)
include hopen hcb

theorem execBindSide_range (h : 2 ≤ db.toNat ∨ 25 ≤ ib.toNat) : execBindSide cb db ib s = s.refused .range := by
  refine serve_refused hopen ?_
  rw [indexOperand_ok hcb, ok_bind]
  rcases h with side | slot
  · rw [sideOperand_range side, error_bind]
  · exact bind_range sideOperand_only_range fun d => by rw [slotOrNoneOperand_range slot, error_bind]

variable {d : Side} {x : Option SetSlot} (hdb : db.toNat = sideCode (some d)) (hib : ib.toNat = slotCode x)
include hdb hib

omit hopen in
/-- Behind its operands Bind Side makes its five checks in order (R55). -/
theorem execBindSide_checks : execBindSide cb db ib s = serve s (
    if s.active ch then
      if x.all fun j => (s.set? j).isSome then
        if (s.feeder ch).closedSide != some d then
          if (s.feeder ch).state != .transfer then
            if !s.orderTargets ch d then
              .ok ⟨.ok, byte ch.val ++ byte (sideCode (some d)) ++ byte (slotCode x),
                s.putFeeder ch { s.feeder ch with bound := (s.feeder ch).bound.set d x }⟩
            else .error .inUse
          else .error .inUse
        else .error .inUse
      else .error .noRecord
    else .error .noRecord) := by
  rw [execBindSide]
  simp only [indexOperand_ok hcb, sideOperand_ok hdb, slotOrNoneOperand_ok hib, ok_bind, require_bind]

theorem execBindSide_inactive (inactive : s.active ch = false) :
    execBindSide cb db ib s = s.refused .noRecord := by
  rw [execBindSide_checks hcb hdb hib]
  exact serve_refused hopen (by rw [inactive]; rfl)

variable (active : s.active ch = true)
include active

theorem execBindSide_free (free : ¬ ∀ i, x = some i → (s.set? i).isSome = true) :
    execBindSide cb db ib s = s.refused .noRecord := by
  have fails : (x.all fun j => (s.set? j).isSome) = false := by
    rw [← Bool.not_eq_true]
    exact mt State.all_hired_iff.mp free
  rw [execBindSide_checks hcb hdb hib]
  exact serve_refused hopen (by rw [active, fails]; rfl)

variable (hired : ∀ i, x = some i → (s.set? i).isSome = true)
include hired

/-- With the set hired, the side closed, the feeder in TRANSFER or an order for the side stands against it. -/
theorem execBindSide_inUse (h : (s.feeder ch).state = .on d ∨ (s.feeder ch).state = .transfer
    ∨ ∃ o ∈ s.queue, o.feeder = ch ∧ o.target = d) : execBindSide cb db ib s = s.refused .inUse := by
  have passes : (x.all fun j => (s.set? j).isSome) = true := State.all_hired_iff.mpr hired
  rw [execBindSide_checks hcb hdb hib]
  refine serve_refused hopen ?_
  rw [active, passes]
  by_cases closed : (s.feeder ch).state = .on d
  · simp [Feeder.closedSide_eq_some.mpr closed]
  · by_cases inHand : (s.feeder ch).state = .transfer
    · simp [inHand]
    · have ordered := State.orderTargets_iff.mpr ((h.resolve_left closed).resolve_left inHand)
      simp [ordered]

theorem execBindSide_binds (apart : (s.feeder ch).state ≠ .on d) (idle : (s.feeder ch).state ≠ .transfer)
    (unordered : ¬ ∃ o ∈ s.queue, o.feeder = ch ∧ o.target = d) : execBindSide cb db ib s = .next { s with
      feeders := s.feeders.set ch { s.feeder ch with bound := (s.feeder ch).bound.set d x }
      sdo := .low, result := ⟨.ok, be 1 ch.val ++ be 1 (sideCode (some d)) ++ be 1 (slotCode x)⟩ } := by
  have passes : (x.all fun j => (s.set? j).isSome) = true := State.all_hired_iff.mpr hired
  have open_ : ((s.feeder ch).closedSide != some d) = true := bne_iff_ne.mpr (mt Feeder.closedSide_eq_some.mp apart)
  have resting : ((s.feeder ch).state != .transfer) = true := bne_iff_ne.mpr idle
  have free : (!s.orderTargets ch d) = true := by
    rw [Bool.not_eq_true', ← Bool.not_eq_true]
    exact mt State.orderTargets_iff.mp unordered
  rw [execBindSide_checks hcb hdb hib]
  simp only [active, passes, open_, resting, free, if_true]
  exact serve_ok hopen

end BindSide

/-- Settles O36: each outcome is one of the equations above. -/
theorem bindSideChecksInOrderAndBindsOneSide : Obligations.BindSideChecksInOrderAndBindsOneSide := by
  intro s cb db ib ch hopen hcb
  refine ⟨execBindSide_range hopen hcb, fun d x hdb hib => ⟨execBindSide_inactive hopen hcb hdb hib,
    execBindSide_free hopen hcb hdb hib, fun active hired closed => ?_, fun active hired inHand => ?_,
    fun active hired _ _ ordered => ?_, execBindSide_binds hopen hcb hdb hib⟩⟩
  · exact execBindSide_inUse hopen hcb hdb hib active hired (.inl closed)
  · exact execBindSide_inUse hopen hcb hdb hib active hired (.inr (.inl inHand))
  · exact execBindSide_inUse hopen hcb hdb hib active hired (.inr (.inr ordered))

/-! ## An energy pulse (R50, R51) -/

/-- The band in force, read from the schedule as a list (R157). -/
theorem State.bandInForce_eq (s : State) : s.bandInForce = if s.clock.valid then
    (s.tariff.schedule.toList.getD (s.clock.minute / 60 % 24) ⟨0, none⟩).live else 0 := by
  have hour : s.clock.minute / 60 % 24 < 24 := Nat.mod_lt _ (by decide)
  simp [State.bandInForce, hourOf, List.getD_eq_getElem?_getD, hour]

/-- Energy billed to an open account in the band in force (R51, R147). -/
theorem State.billEnergy_some {s : State} {a : AccountSlot} {x : Account} {b : Band} (opened : s.account? a = some x)
    (band : s.bandInForce = b) (w : Nat) : s.billEnergy a w = s.postAccount a
      { x with
        band := x.band.set b (satAdd max32 x.band[b] w)
        energyAccrual := satAdd max48 x.energyAccrual (w * (s.tariff.rates[b]).live) }
      (cutShort max32 x.band[b] w || cutShort max48 x.energyAccrual (w * (s.tariff.rates[b]).live)) := by
  subst band
  simp only [State.billEnergy, opened]
  rfl

/-- Settles O39: an active channel's pulse is counted and billed; an inactive channel's is not taken. -/
theorem energyPulseBillsOneAccount : Obligations.EnergyPulseBillsOneAccount := by
  refine ⟨fun s ch x active opened => ?billed, fun s ch inactive => ?ignored⟩
  case billed =>
    have counted (g : Feeder) :=
      State.billEnergy_some (s := s.putFeeder ch g) opened s.bandInForce_eq (s.feeder ch).weight
    exact congrArg Host.Outcome.next ((if_pos active).trans (counted _))
  case ignored => exact congrArg Host.Outcome.next (if_neg (by rw [inactive]; decide))

end Sys2Proof.Machine
end

section
/-! Work on one channel: what a flush, a take, each phase and the end of a transfer leave of the other feeders, the
queue and the straps (R53, R105 to R113), and so what a scan leaves of a feeder without an order (R98). -/

namespace Sys2Proof.Machine

/-- The work is on one channel: the other feeders, the queue, the straps and the sets bound to the channel's own
sides stand. -/
structure OnChannel (ch : Channel) (s t : State) : Prop where
  others : ∀ c, c ≠ ch → t.feeder c = s.feeder c
  bound : (t.feeder ch).bound = (s.feeder ch).bound
  queue : t.queue = s.queue
  straps : t.straps = s.straps

namespace OnChannel

variable {ch : Channel} {s t u : State}

theorem trans (a : OnChannel ch s t) (b : OnChannel ch t u) : OnChannel ch s u where
  others c h := (b.others c h).trans (a.others c h)
  bound := b.bound.trans a.bound
  queue := b.queue.trans a.queue
  straps := b.straps.trans a.straps

/-- Work beside the feeders, the queue and the straps. -/
theorem beside (feeders : t.feeders = s.feeders := by rfl) (queue : t.queue = s.queue := by rfl)
    (straps : t.straps = s.straps := by rfl) : OnChannel ch s t where
  others c _ := by rw [State.feeder, feeders]; rfl
  bound := by rw [State.feeder, feeders]; rfl
  queue := queue
  straps := straps

theorem refl (ch : Channel) (s : State) : OnChannel ch s s := .beside

/-- `trans` with the later work first, from which the state between is read off. -/
theorem after (b : OnChannel ch t u) (a : OnChannel ch s t) : OnChannel ch s u := a.trans b

theorem ite {c : Prop} [Decidable c] (a : OnChannel ch s t) (b : OnChannel ch s u) :
    OnChannel ch s (if c then t else u) := by
  split
  · exact a
  · exact b

/-- A write of the channel's record that keeps its bound sets. -/
theorem putFeeder (s : State) (ch : Channel) {f : Feeder} (bound : f.bound = (s.feeder ch).bound := by rfl) :
    OnChannel ch s (s.putFeeder ch f) where
  others _ h := s.feeder_putFeeder_ne f h
  bound := by rw [State.feeder_putFeeder_self, bound]
  queue := rfl
  straps := rfl

theorem flush (s : State) (ch : Channel) : OnChannel ch s (s.flush ch) := by
  rcases s.flush_cases ch with h | ⟨i, _, _, h⟩
  · rw [h]; exact refl ch s
  · rw [h]
    have carried : OnChannel ch s (s.updSet i (·.carry (s.feeder ch).account (s.feeder ch).interval)) := .beside
    exact carried.trans (.putFeeder _ ch)

theorem driveSide (s : State) (ch : Channel) (d : Side) (closed : Bool) :
    OnChannel ch s (s.driveSide ch d closed) := .putFeeder s ch

theorem endTransfer (s : State) (t : Transfer) (st : FeederState) (cause : FaultCause) (o : TransferOutcome)
    (r : Reason) (flags : List Flag) (own : t.feeder = ch := by rfl) :
    OnChannel ch s (s.endTransfer t st cause o r flags) where
  others _ h := s.feeder_endTransfer_ne t st cause o r flags (own ▸ h)
  bound := by rw [← own, State.feeder_endTransfer_self]; rfl
  queue := s.queue_endTransfer t st cause o r flags
  straps := s.straps_endTransfer t st cause o r flags

theorem beginOpening (s : State) (t : Transfer) (d : Side) : OnChannel t.feeder s (s.beginOpening t d) :=
  (driveSide s t.feeder d false).trans (.ite .beside .beside)

theorem beginClosing (s : State) (t : Transfer) : OnChannel t.feeder s (s.beginClosing t) :=
  (driveSide s t.feeder t.target true).trans (.ite (endTransfer _ _ _ _ _ _ _) .beside)

theorem beginReleasing (s : State) (t : Transfer) : OnChannel t.feeder s (s.beginReleasing t) :=
  (driveSide s t.feeder t.target false).trans (.ite .beside (endTransfer _ _ _ _ _ _ _))

theorem beginFallback (s : State) (t : Transfer) (d : Side) (why : FallbackReason) :
    OnChannel t.feeder s (s.beginFallback t d why) :=
  (driveSide s t.feeder t.target false).trans <| (driveSide _ t.feeder d true).trans <|
    .ite (endTransfer _ _ _ _ _ _ _) .beside

theorem openTimedOut (s : State) (t : Transfer) (d : Side) : OnChannel t.feeder s (s.openTimedOut t d) :=
  (driveSide s t.feeder d true).trans (endTransfer _ _ _ _ _ _ _)

theorem testPhase (s : State) (t : Transfer) : OnChannel t.feeder s (s.testPhase t) := by
  have ends := endTransfer (ch := t.feeder) s t
  unfold State.testPhase
  split
  · exact ite (refl _ s) .beside
  · exact refl _ s
  · exact refl _ s
  · exact ite (ite (refl _ s) (ends _ _ _ _ _)) (ite (ends _ _ _ _ _) (refl _ s))
  · exact ite (ends _ _ _ _ _) (refl _ s)
  · exact refl _ s

theorem take (s : State) (ch : Channel) (target : Side) : OnChannel ch s (s.take ch target) := by
  refine (flush s ch).trans ?_
  unfold State.take
  dsimp only
  split
  · exact after (beginOpening _ ((s.feeder ch).takenTransfer ch target) _) (putFeeder _ ch)
  · exact after (beginClosing _ ((s.feeder ch).takenTransfer ch target)) (putFeeder _ ch)

end OnChannel

/-- A scan leaves a feeder that has no order as it was (R98). -/
theorem State.feeder_scan_unordered {s : State} {ch : Channel} (unordered : ∀ o ∈ s.queue, o.feeder ≠ ch) :
    s.scan.feeder ch = s.feeder ch := by
  have pass : (s.scanPass false s.queue).1.feeder ch = s.feeder ch := by
    rcases s.scanPass_cases s.queue with ⟨_, none_handed⟩ | ⟨pre, o, post, queue, _, _, handed⟩
    · rw [none_handed]
    · rw [handed]
      exact (OnChannel.take s o.feeder o.target).others ch (unordered o (by simp [queue])).symm
  exact pass

end Sys2Proof.Machine
end

section
/-! Open Feeder and Reconcile Feeder, outcome by outcome (R58, R60, R115). -/

namespace Sys2Proof.Machine

/-- A feeder opened by command, from its record as flushed and with its last outcome: its open check runs unless both
feedbacks read open, and one that runs already keeps its deadline (R58). -/
def State.openedFeeder (s : State) (ch : Channel) (f : Feeder) (last : Option LastTransfer) : Feeder :=
  { f with
    state := .dark, cause := .none, drive := ⟨false, false⟩, watch := ⟨none, none⟩, last := last
    openCheck := if s.fbBothOpen ch then none else some (f.openCheck.getD s.params.openTimeout) }

/-- A feeder opened with both drives open has no disagreement timer: it agrees, or its open check runs. -/
theorem State.darkWithCheck_eq {s : State} {ch : Channel} {f : Feeder} (own : s.feeder ch = f)
    (drive : f.drive = ⟨false, false⟩) : s.darkWithCheck ch = s.putFeeder ch (s.openedFeeder ch f f.last) := by
  subst own
  have watched : s.watchedFrom ch { s.openedFeeder ch (s.feeder ch) (s.feeder ch).last with
      watch := (s.feeder ch).watch } = s.openedFeeder ch (s.feeder ch) (s.feeder ch).last := by
    by_cases opened : s.fbBothOpen ch = true
    · exact State.watchedFrom_open rfl opened
    · refine State.watchedFrom_unwatched ?_
      simp [Feeder.watched, State.openedFeeder, opened]
  rw [← watched, ← State.rewatch_putFeeder, State.openedFeeder, ← drive]
  rfl

/-- Opening by command a feeder that no transfer in hand is for (R58). -/
theorem State.openByCommand_idle {s : State} {ch : Channel} (apart : s.transfer.map (·.feeder) ≠ some ch) :
    s.openByCommand ch = { s.flush ch with
      feeders := (s.flush ch).feeders.set ch (s.openedFeeder ch ((s.flush ch).feeder ch)
        (s.lastAfter ch .cancelled .openedByCommand))
      queue := s.queue.filter (·.feeder != ch) } := by
  have transfer : ((s.flush ch).driveOpen ch).transfer = s.transfer := by rw [State.flush_eq]; rfl
  have opened : s.openByCommand ch =
      (((s.flush ch).driveOpen ch).removeOrder ch .cancelled .openedByCommand).darkWithCheck ch := by
    unfold State.openByCommand
    dsimp only
    rw [transfer]
    cases held : s.transfer with
    | none => rfl
    | some t =>
      have other : t.feeder ≠ ch := fun e => apart (by rw [held, ← e]; rfl)
      simp only [if_neg other]
  have removed : ((s.flush ch).driveOpen ch).removeOrder ch .cancelled .openedByCommand = { s.flush ch with
      feeders := (s.flush ch).feeders.set ch { (s.flush ch).feeder ch with
        drive := ⟨false, false⟩, last := s.lastAfter ch .cancelled .openedByCommand }
      queue := s.queue.filter (·.feeder != ch) } := by
    rw [State.removeOrder_eq, State.driveOpen, State.flush_eq]
    simp only [State.putFeeder, State.feeder, Fin.getElem_fin, Vector.getElem_set_self, Vector.set_set,
      State.lastAfter, State.orderFor, State.now]
  rw [opened, removed]
  refine (State.darkWithCheck_eq (f := { (s.flush ch).feeder ch with
    drive := ⟨false, false⟩, last := s.lastAfter ch .cancelled .openedByCommand })
    ?own rfl).trans ?_
  case own => exact (s.flush ch).feeder_putFeeder_self ch _
  simp only [State.putFeeder, Vector.set_set]
  rw [State.flush_eq]
  rfl

/-- Opening by command the feeder of the transfer in hand ends the transfer CANCELLED (R115). -/
theorem State.openByCommand_held {s : State} {h : Transfer} (wired : s.Wired) (held : s.transfer = some h) :
    s.openByCommand h.feeder = { s with
      feeders := s.feeders.set h.feeder (s.openedFeeder h.feeder (s.feeder h.feeder)
        (some ⟨h.target, .cancelled, .openedByCommand, s.now⟩))
      transfer := none, lastOutcome := some (s.outcomeOf h .cancelled .openedByCommand) } := by
  have flush : s.flush h.feeder = s := by rw [State.flush, wired.held_unmoved held]
  have ends : ((s.driveOpen h.feeder).endTransfer h .dark .none .cancelled .openedByCommand []).removeOrder h.feeder
      .cancelled .openedByCommand =
      (s.driveOpen h.feeder).ended h .dark .none .cancelled .openedByCommand := by
    rw [State.endTransfer_eq_ended, List.foldl_nil, State.removeOrder]
    rw [show ((s.driveOpen h.feeder).ended h .dark .none .cancelled .openedByCommand).orderFor h.feeder = none from
      wired.held_noOrder held]
  have opened : s.openByCommand h.feeder =
      ((s.driveOpen h.feeder).ended h .dark .none .cancelled .openedByCommand).darkWithCheck h.feeder := by
    unfold State.openByCommand
    dsimp only
    rw [flush, ← ends, show (s.driveOpen h.feeder).transfer = some h from held]
    exact congrArg (fun u : State => (u.removeOrder h.feeder _ _).darkWithCheck h.feeder) (if_pos rfl)
  obtain ⟨timers, ended⟩ : ∃ timers, (s.driveOpen h.feeder).ended h .dark .none .cancelled .openedByCommand =
      { s.putFeeder h.feeder { s.feeder h.feeder with
          state := .dark, cause := .none, drive := ⟨false, false⟩, watch := timers
          last := some ⟨h.target, .cancelled, .openedByCommand, s.now⟩ } with
        transfer := none, lastOutcome := some (s.outcomeOf h .cancelled .openedByCommand) } := by
    have feeder : (s.driveOpen h.feeder).feeder h.feeder = { s.feeder h.feeder with drive := ⟨false, false⟩ } :=
      s.feeder_putFeeder_self h.feeder _
    have outcome : (s.driveOpen h.feeder).outcomeOf h .cancelled .openedByCommand
        = s.outcomeOf h .cancelled .openedByCommand := 
        State.outcomeOf_congr (s := s) (u := s.driveOpen h.feeder) (t := h) (by rw [feeder]) rfl _ _
    rw [State.ended, outcome, State.endedFeeder, feeder, State.driveOpen, State.putFeeder_putFeeder]
    exact ⟨_, rfl⟩
  rw [opened, ended]
  refine (State.darkWithCheck_eq (f := { s.feeder h.feeder with
    state := .dark, cause := .none, drive := ⟨false, false⟩, watch := timers
    last := some ⟨h.target, .cancelled, .openedByCommand, s.now⟩ }) ?own rfl).trans ?_
  case own => exact s.feeder_putFeeder_self h.feeder _
  simp only [State.putFeeder, Vector.set_set]
  rfl

/-! ## The commands -/

/-- The energy a flush moved, as results carry it (R56, R58). -/
theorem State.flushBytes_eq (s : State) (ch : Channel) : flushBytes (s.flushMoves ch) =
    match (s.feeder ch).energisedSet with
    | some i => if 0 < (s.feeder ch).interval then be 3 (s.feeder ch).interval ++ be 1 (i.val + 1) else be 4 0
    | none => be 4 0 := by
  unfold State.flushMoves
  cases (s.feeder ch).energisedSet with
  | none => rfl
  | some i => dsimp only; split <;> rfl

section Channel

variable {s : State} {cb : Byte} {ch : Channel} (hcb : cb.toNat = ch.val) (active : s.active ch = true)
include hcb active

theorem channelOperand_ok : channelOperand s cb = .ok ch := by
  rw [channelOperand, indexOperand_ok hcb, ok_bind, active]
  rfl

variable (hopen : s.portOpen = true)
include hopen

/-- A FAULT feeder is left as it is (R58). -/
theorem execOpenFeeder_fault (fault : (s.feeder ch).state = .fault) : execOpenFeeder cb s = .next { s with
    sdo := .low, result := ⟨.ok, be 1 ch.val ++ be 1 4 ++ be 1 (s.feeder ch).openCheck.isSome.toNat ++ be 4 0⟩ } := by
  rw [execOpenFeeder, channelOperand_ok hcb active, ok_bind]
  simp only [fault]
  exact serve_ok hopen

/-- Any other feeder is opened, and with a transfer for it the queue scans (R58, R115). -/
theorem execOpenFeeder_opens (sound : (s.feeder ch).state ≠ .fault) : execOpenFeeder cb s =
    let t := if (s.feeder ch).state = .transfer then (s.openByCommand ch).scan else s.openByCommand ch
    .next { t with
      sdo := .low, result := ⟨.ok, be 1 ch.val ++ be 1 (t.feeder ch).state.code
        ++ be 1 (t.feeder ch).openCheck.isSome.toNat ++ flushBytes (s.flushMoves ch)⟩ } := by
  rw [execOpenFeeder, channelOperand_ok hcb active, ok_bind]
  cases state : (s.feeder ch).state with
  | fault => exact absurd state sound
  | _ =>
    simp only [state, reduceCtorEq, if_false, if_true]
    exact serve_ok hopen

/-- A FAULT feeder with both feedbacks open becomes DARK, and the queue scans (R60). -/
theorem execReconcileFeeder_proven (fault : (s.feeder ch).state = .fault)
    (drive : (s.feeder ch).drive = ⟨false, false⟩) (proven : s.fbBothOpen ch = true) : execReconcileFeeder cb s = .next
      { (s.putFeeder ch { s.feeder ch with state := .dark, cause := .none, watch := ⟨none, none⟩ }).scan with
        sdo := .low, result := ⟨.ok, be 1 ch.val ++ be 1 0 ++ be 1 0⟩ } := by
  have dark : (s.putFeeder ch { s.feeder ch with state := .dark, cause := .none }).rewatch ch 0
      = s.putFeeder ch { s.feeder ch with state := .dark, cause := .none, watch := ⟨none, none⟩ } := by
    rw [State.rewatch_putFeeder]
    exact congrArg (s.putFeeder ch) (State.watchedFrom_open drive proven)
  have readings : s.feedbackByte ch = 0 := by
    rw [State.feedbackByte, (s.fbBothOpen_iff ch).mp proven, (s.fbBothOpen_iff ch).mp proven]
    rfl
  rw [execReconcileFeeder, channelOperand_ok hcb active, ok_bind]
  simp only [dark, fault, proven, readings, decide_true, Bool.and_self, if_true, State.feeder_putFeeder_self]
  exact serve_ok hopen

theorem execReconcileFeeder_state (unproven : (s.feeder ch).state ≠ .fault ∨ s.fbBothOpen ch = false) :
    execReconcileFeeder cb s = .next { s with
      sdo := .low, result := ⟨.state, be 1 ch.val ++ be 1 (s.feeder ch).state.code
        ++ be 1 ((s.fbClosed ch .A).toNat + 2 * (s.fbClosed ch .B).toNat)⟩ } := by
  have refused : (decide ((s.feeder ch).state = .fault) && s.fbBothOpen ch) = false := by
    rcases unproven with sound | closed
    · simp [sound]
    · simp [closed]
  rw [execReconcileFeeder, channelOperand_ok hcb active, ok_bind]
  simp only [refused]
  exact serve_ok hopen

end Channel

/-- Settles O38: each command by the feeder's state, from the equations above. -/
theorem openFeederAndReconcileFeeder : Obligations.OpenFeederAndReconcileFeeder := by
  intro s cb ch hopen hcb active f proven check
  have opens (sound : f.state ≠ .fault) := execOpenFeeder_opens hcb active hopen sound
  refine ⟨execOpenFeeder_fault hcb active hopen, fun sound idle apart => ?idle, fun h wired held own => ?held,
    execReconcileFeeder_proven hcb active hopen, execReconcileFeeder_state hcb active hopen⟩
  case idle =>
    refine (opens sound).trans ?_
    simp only [show (s.feeder ch).state ≠ .transfer from idle, if_false]
    rw [State.openByCommand_idle apart, State.flushBytes_eq]
    have feeder (g : Feeder) (q : List Order) :
        ({ s.flush ch with feeders := (s.flush ch).feeders.set ch g, queue := q } : State).feeder ch = g :=
      (s.flush ch).feeder_putFeeder_self ch g
    rw [feeder, State.flush_feeder]
    rfl
  case held =>
    subst own
    intro u
    have inHand := wired.held_state held
    have opened : s.openByCommand h.feeder = u := State.openByCommand_held wired held
    have kept : u.scan.feeder h.feeder = u.feeder h.feeder :=
      State.feeder_scan_unordered (s := u) (wired.held_alone held)
    refine (opens (by rw [show f.state = .transfer from inHand]; nofun)).trans ?_
    simp only [inHand, if_true, opened, kept]
    rw [wired.held_unmoved held, show u.feeder h.feeder = _ from s.feeder_putFeeder_self h.feeder _]
    rfl

end Sys2Proof.Machine
end

section
/-! A change of a feedback line, by what its feeder's block is doing (R49, R59, R62, R106 to R112). -/

namespace Sys2Proof.Machine

/-! ## The scan after an event -/

/-- A transfer still in hand makes no scan (R98, R113). -/
theorem State.scanIfIdle_held {s : State} {h : Transfer} (held : s.transfer = some h) : s.scanIfIdle = s := by
  rw [State.scanIfIdle, held]
  exact if_neg nofun

theorem State.scanIfIdle_idle {s : State} (idle : s.transfer = none) : s.scanIfIdle = s.scan := by
  rw [State.scanIfIdle, idle]
  exact if_pos rfl

/-- The end of a transfer makes the queue scan (R113, step 7). -/
theorem State.scanIfIdle_endTransfer (s : State) (t : Transfer) (st : FeederState) (cause : FaultCause)
    (o : TransferOutcome) (r : Reason) (flags : List Flag) :
    (s.endTransfer t st cause o r flags).scanIfIdle = (s.endTransfer t st cause o r flags).scan :=
  State.scanIfIdle_idle (s.transfer_endTransfer t st cause o r flags)

/-! ## What a feeder's block makes of a feedback change -/

section Seen

variable {s : State} {ch : Channel} {d : Side}

/-- Outside a transfer the change reaches the open check, or else the monitor (R59, R62). -/
theorem State.feedbackSeen_apart (apart : (s.feeder ch).state ≠ .transfer) : s.feedbackSeen ch d =
    if (s.feeder ch).openCheck.isSome then (if s.fbBothOpen ch then s.passOpenCheck ch else s)
    else s.rewatch ch 0 := by
  unfold State.feedbackSeen
  split
  next state _ => exact absurd state apart
  next => rfl

/-- In a transfer the change reaches the sequencer (R106, R119). -/
theorem State.feedbackSeen_held {h : Transfer} (state : (s.feeder ch).state = .transfer)
    (held : s.transfer = some h) : s.feedbackSeen ch d =
      if h.feeder = ch && s.pins.resetN && h.names d then (s.testPhase h).scanIfIdle else s := by
  unfold State.feedbackSeen
  rw [state, held]

/-- A transfer for another feeder, one that RESET_N holds and one whose phase does not name the side stand. -/
theorem State.feedbackSeen_unmoved {h : Transfer} (state : (s.feeder ch).state = .transfer)
    (held : s.transfer = some h) (apart : h.feeder ≠ ch ∨ s.pins.resetN = false ∨ h.names d = false) :
    s.feedbackSeen ch d = s := by
  rw [State.feedbackSeen_held state held]
  refine if_neg fun seen => ?_
  rw [Bool.and_eq_true, Bool.and_eq_true, decide_eq_true_iff] at seen
  obtain ⟨⟨own, up⟩, named⟩ := seen
  rcases apart with other | down | unnamed
  · exact other own
  · rw [up] at down; cases down
  · rw [named] at unnamed; cases unnamed

theorem State.feedbackSeen_named {h : Transfer} (state : (s.feeder ch).state = .transfer)
    (held : s.transfer = some h) (own : h.feeder = ch) (up : s.pins.resetN = true) (named : h.names d = true) :
    s.feedbackSeen ch d = (s.testPhase h).scanIfIdle := by
  rw [State.feedbackSeen_held state held, up, named]
  exact if_pos (by simpa using own)

/-- A feeder in FAULT has no disagreement timer (R62). -/
theorem State.feedbackSeen_fault (fault : (s.feeder ch).state = .fault) (check : (s.feeder ch).openCheck = none) :
    s.feedbackSeen ch d = s.putFeeder ch { s.feeder ch with watch := ⟨none, none⟩ } := by
  rw [State.feedbackSeen_apart (by rw [fault]; nofun), check]
  refine (if_neg nofun).trans ?_
  rw [State.rewatch_zero]
  exact congrArg (s.putFeeder ch) (State.watchedFrom_unwatched (by rw [Feeder.watched, fault]))

/-- A watched feeder's timers start and are cancelled with the side's disagreement (R62). -/
theorem State.feedbackSeen_watched (active : s.active ch = true)
    (state : (s.feeder ch).state = .dark ∨ (s.feeder ch).state = .on .A ∨ (s.feeder ch).state = .on .B)
    (check : (s.feeder ch).openCheck = none) : s.feedbackSeen ch d = s.putFeeder ch { s.feeder ch with watch :=
      ⟨if (s.feeder ch).drive.a = s.fbClosed ch .A then none else some ((s.feeder ch).watch.a.getD 0),
       if (s.feeder ch).drive.b = s.fbClosed ch .B then none else some ((s.feeder ch).watch.b.getD 0)⟩ } := by
  have seen : (s.feeder ch).isWatched := by
    rcases state with dark | on
    · exact .inl ⟨dark, check⟩
    · exact .inr on
  have timer (e : Side) : s.timerOf ch (s.feeder ch) e =
      if (s.feeder ch).drive.get e = s.fbClosed ch e then none else some (((s.feeder ch).watch.get e).getD 0) := by
    rw [State.timerOf_eq, ← ite_not]
    exact if_congr (by simp [active, seen]) rfl rfl
  have apart : (s.feeder ch).state ≠ .transfer := by rcases state with e | e | e <;> rw [e] <;> nofun
  rw [State.feedbackSeen_apart apart, check]
  refine (if_neg nofun).trans ?_
  rw [State.rewatch_zero, State.watchedFrom, timer, timer]
  rfl

end Seen

/-! ## The phase's condition (R107 to R112) -/

section Phase

variable {s : State} {h : Transfer} {d : Side}

theorem Transfer.names_opening {a : Side} (phase : h.phase = .opening) (old : h.fromSide = some a) :
    h.names d = true ↔ d = a := by
  rw [Transfer.names, phase, old]
  exact beq_iff_eq.trans (Option.some_inj.trans eq_comm)

theorem Transfer.names_closing (phase : h.phase = .closing) : h.names d = true ↔ d = h.target := by
  rw [Transfer.names, phase]
  exact beq_iff_eq.trans eq_comm

theorem Transfer.names_fallback (phase : h.phase = .fallback) : h.names d = true := by
  rw [Transfer.names, phase]

theorem State.testPhase_opening {a : Side} (phase : h.phase = .opening) (old : h.fromSide = some a) :
    s.testPhase h = if s.fbClosed h.feeder a then s else s.beginDead h := by
  simp only [State.testPhase, phase, old]

theorem State.testPhase_closing (phase : h.phase = .closing) (closing : h.releasing = false) :
    s.testPhase h = if s.fbClosed h.feeder h.target then s.endDone h else s := by
  simp only [State.testPhase, phase, closing, Bool.false_eq_true, if_false]

theorem State.testPhase_releasing (phase : h.phase = .closing) (releasing : h.releasing = true) :
    s.testPhase h = if s.fbClosed h.feeder h.target then s else s.endReleased h := by
  simp only [State.testPhase, phase, releasing, if_true]

theorem State.testPhase_fallback {a : Side} (phase : h.phase = .fallback) (old : h.fromSide = some a) :
    s.testPhase h = if s.fallbackProven h a then s.endFallback h a else s := by
  simp only [State.testPhase, phase, old]

end Phase

/-! ## The event -/

theorem execFeedbackChange_seen {s : State} {ch : Channel} {d : Side} {level : Bool}
    (change : (s.pins.feedback.get d)[ch] ≠ level) (active : s.active ch = true) :
    exec (.feedbackChange ch d level) s = .next ((s.setFeedback ch d level).feedbackSeen ch d) :=
  congrArg Host.Outcome.next ((if_neg change).trans (if_pos active))

/-- Settles O40: the change by whether it is one, by the channel, and by what the feeder's block is doing. -/
theorem feedbackChangesReachTheirBlock : Obligations.FeedbackChangesReachTheirBlock := by
  intro s ch d level u f proven next
  refine ⟨fun same => congrArg Host.Outcome.next (if_pos same), fun change => ⟨fun idle => ?inactive,
    fun active => ?active⟩⟩
  case inactive =>
    have idle : u.active ch ≠ true := by rw [show u.active ch = false from idle]; nofun
    exact congrArg Host.Outcome.next ((if_neg change).trans (if_neg idle))
  case active =>
    have seen {t : State} (e : u.feedbackSeen ch d = t) : next = .next t :=
      (execFeedbackChange_seen change active).trans (congrArg Host.Outcome.next e)
    have apart (dark : f.state = .dark) : (u.feeder ch).state ≠ .transfer := by
      rw [show (u.feeder ch).state = .dark from dark]; nofun
    refine ⟨fun fault check => seen (State.feedbackSeen_fault fault check),
      fun state check => seen (State.feedbackSeen_watched active state check),
      fun dark check unproven => ?failing, fun dark check drive opened => ?passes,
      fun h state held => ⟨fun stands => ?held, fun own up => ?sequencer⟩⟩
    case failing =>
      refine seen ((State.feedbackSeen_apart (apart dark)).trans ((if_pos check).trans (if_neg ?_)))
      rw [State.fbBothOpen, show (!u.fbClosed ch .A && !u.fbClosed ch .B) = false from unproven]
      nofun
    case passes =>
      exact seen ((State.feedbackSeen_apart (apart dark)).trans ((if_pos check).trans
        ((if_pos opened).trans (State.passOpenCheck_eq drive opened))))
    case held =>
      refine seen (State.feedbackSeen_unmoved state held ?_)
      exact stands.imp_right .inl
    case sequencer =>
      subst own
      have unnamed (away : h.names d = false) : next = .next u :=
        seen (State.feedbackSeen_unmoved state held (.inr (.inr away)))
      have tested (named : h.names d = true) : next = .next (u.testPhase h).scanIfIdle :=
        seen (State.feedbackSeen_named state held rfl up named)
      have stands (e : h.names d = true → u.testPhase h = u) : next = .next u := by
        cases named : h.names d with
        | false => exact unnamed named
        | true => rw [tested named, e named, State.scanIfIdle_held (s := u) held]
      have ends (named : h.names d = true) {st : FeederState} {cause : FaultCause} {o : TransferOutcome} {r : Reason}
          {flags : List Flag} (e : u.testPhase h = u.endTransfer h st cause o r flags) :
          next = .next (u.endTransfer h st cause o r flags).scan := by
        rw [tested named, e, State.scanIfIdle_endTransfer]
      refine ⟨fun a phase old idle => stands fun named => ?opening, fun a phase old own opened => ?opened,
        fun phase => unnamed (by rw [Transfer.names, phase]),
        fun phase closing idle => stands fun named => ?closing,
        fun phase closing own closed => ends ((Transfer.names_closing phase).mpr own) ?closed,
        fun phase releasing idle => stands fun named => ?releasing,
        fun phase releasing own opened => ends ((Transfer.names_closing phase).mpr own) ?released,
        fun a why phase old fallback => ⟨fun idle => stands fun _ => ?fallback,
          fun oldClosed targetOpen => ends (Transfer.names_fallback phase) ?proven⟩⟩
      case opening =>
        have own := (Transfer.names_opening phase old).mp named
        exact (State.testPhase_opening phase old).trans (if_pos (idle.resolve_left (· own)))
      case opened =>
        rw [tested ((Transfer.names_opening phase old).mpr own), State.testPhase_opening phase old, opened]
        rfl
      case closing =>
        have own := (Transfer.names_closing phase).mp named
        rw [State.testPhase_closing phase closing, idle.resolve_left (· own)]
        rfl
      case closed => exact (State.testPhase_closing phase closing).trans (if_pos closed)
      case releasing =>
        have own := (Transfer.names_closing phase).mp named
        exact (State.testPhase_releasing phase releasing).trans (if_pos (idle.resolve_left (· own)))
      case released =>
        rw [State.testPhase_releasing phase releasing, opened]
        rfl
      case fallback =>
        rw [State.testPhase_fallback phase old, State.fallbackProven]
        rcases idle with e | e <;> simp [e]
      case proven =>
        rw [State.testPhase_fallback phase old, State.fallbackProven, oldClosed, targetOpen, State.endFallback, fallback]
        rfl

end Sys2Proof.Machine
end

section
/-! Query Feeder, Query Queue and Query Sequencer as rows of figures (R61, R102, R122, R189, R191, R192). -/

namespace Sys2Proof.Machine

/-! ## Query Feeder -/

/-- The last transfer of a feeder, 00h throughout when there is none. -/
def lastTransferRow (l : Option LastTransfer) : List (Nat × Nat) :=
  [(1, (l.map fun l => sideCode (some l.target)).getD 0), (1, (l.map (·.outcome.code)).getD 0),
   (1, (l.map (·.reason.code)).getD 0), (3, (l.map (·.minute)).getD 0)]

theorem lastTransferBytes_eq (l : Option LastTransfer) : lastTransferBytes l = layout (lastTransferRow l) := by
  cases l <;> rfl

/-- The row of figures of the feeder readout (R191). -/
def State.feederRow (s : State) (ch : Channel) : List (Nat × Nat) :=
  let f := s.feeder ch
  [(1, ch.val), (1, slotCode f.bound.a), (1, slotCode f.bound.b), (1, f.account.val), (1, f.weight), (1, f.deadTime),
   (1, f.state.code), (1, f.cause.code), (1, slotCode f.energisedSet),
   (1, f.drive.a.toNat + 2 * f.drive.b.toNat + 4 * (s.fbClosed ch .A).toNat + 8 * (s.fbClosed ch .B).toNat
     + 16 * (s.disagrees ch .A).toNat + 32 * (s.disagrees ch .B).toNat + 64 * f.openCheck.isSome.toNat),
   (3, f.interval), (4, f.lifetime), (4, f.demand)] ++ lastTransferRow f.last

theorem feederView_eq (s : State) (ch : Channel) : s.feederView ch = layout (s.feederRow ch) := by
  have lines : s.feederLines ch = (s.feeder ch).drive.a.toNat + 2 * (s.feeder ch).drive.b.toNat
      + 4 * (s.fbClosed ch .A).toNat + 8 * (s.fbClosed ch .B).toNat + 16 * (s.disagrees ch .A).toNat
      + 32 * (s.disagrees ch .B).toNat + 64 * (s.feeder ch).openCheck.isSome.toNat := by
    rw [State.feederLines, State.feedbackByte]
    omega
  rw [State.feederRow, layout_append, ← lastTransferBytes_eq]
  simp only [State.feederView, lines, layout, List.flatMap_cons, List.flatMap_nil, List.append_nil,
    List.append_assoc, byte_eq_be]

/-! ## Query Queue -/

/-- Rows of one width stand at even distances. -/
theorem placesFrom_flatMap {α : Type} {row : α → List (Nat × Nat)} {width : Nat}
    (even : ∀ x, ((row x).map (·.1)).sum = width) (off : Nat) (l : List α) (n : Nat) :
    placesFrom (off + width * n) (l.flatMap row)
      = (l.zipIdx n).flatMap fun x => placesFrom (off + width * x.2) (row x.1) := by
  induction l generalizing n with
  | nil => rfl
  | cons x l ih =>
    rw [List.flatMap_cons, placesFrom_append, even, Nat.add_assoc, ← Nat.mul_succ, ih (n + 1), List.zipIdx_cons,
      List.flatMap_cons]

/-- The row of figures of one order (R192). -/
def State.orderRow (s : State) (o : Order) : List (Nat × Nat) :=
  [(2, o.feeder.val * 4096 + sideCode (some o.target) * 2048
      + slotCode ((s.feeder o.feeder).bound.get o.target) * 64
      + (if o.origin = .relief then 32 else 0) + o.wait.code),
   (5, o.startMin * 1048576 + o.endMin)]

theorem orderBytes_eq (s : State) (o : Order) : s.orderBytes o = layout (s.orderRow o) := by
  have origin : 32 * o.origin.code = if o.origin = .relief then 32 else 0 := by cases o.origin <;> rfl
  rw [State.orderBytes, origin, Nat.mul_comm 4096, Nat.mul_comm 2048, Nat.mul_comm 64]
  rfl

/-- The row of figures of the queue readout (R192). -/
def State.queueRow (s : State) : List (Nat × Nat) :=
  [(1, s.queue.length), (1, (s.transfer.map fun t => 128 + t.feeder.val).getD 0)] ++ s.queue.flatMap s.orderRow

theorem State.queueRow_width (s : State) : (s.queueRow.map (·.1)).sum = 2 + 7 * s.queue.length := by
  have orders (l : List Order) : ((l.flatMap s.orderRow).map (·.1)).sum = 7 * l.length := by
    induction l with
    | nil => rfl
    | cons o l ih =>
      rw [List.flatMap_cons, List.map_append, List.sum_append, ih, List.length_cons, Nat.mul_succ, Nat.add_comm]
      rfl
  rw [State.queueRow, List.map_append, List.sum_append, orders]
  rfl

theorem layout_queueRow (s : State) : layout s.queueRow = byte s.queue.length
    ++ (match s.transfer with
        | some t => byte (128 + t.feeder.val)
        | none => byte 0)
    ++ s.queue.flatMap s.orderBytes := by
  have orders : layout (s.queue.flatMap s.orderRow) = s.queue.flatMap s.orderBytes := by
    rw [layout, List.flatMap_assoc]
    exact List.flatMap_congr fun o _ => (orderBytes_eq s o).symm
  rw [State.queueRow, layout_append, orders]
  cases s.transfer <;> rfl

theorem execQueryQueue_reads {s : State} (hopen : s.portOpen = true) : s.Reads .queryQueue (2 + 7 * s.queue.length)
    ([(0, 1, s.queue.length), (1, 1, (s.transfer.map fun t => 128 + t.feeder.val).getD 0)]
      ++ s.queue.zipIdx.flatMap fun (o, k) =>
          [(2 + 7 * k, 2, o.feeder.val * 4096 + sideCode (some o.target) * 2048
              + slotCode ((s.feeder o.feeder).bound.get o.target) * 64
              + (if o.origin = .relief then 32 else 0) + o.wait.code),
           (4 + 7 * k, 5, o.startMin * 1048576 + o.endMin)]) := by
  refine .ofLayout s.queueRow hopen (body := .ok ⟨.ok, layout s.queueRow, s⟩) ?_ rfl s.queueRow_width ?_
  · rw [layout_queueRow]
    rfl
  · rw [State.queueRow, placesFrom_append]
    have width (o : Order) : ((s.orderRow o).map (·.1)).sum = 7 := rfl
    refine congrArg₂ (· ++ ·) rfl ((placesFrom_flatMap width 2 s.queue 0).trans ?_)
    refine List.flatMap_congr fun x _ => ?_
    have window : 2 + 7 * x.2 + 2 = 4 + 7 * x.2 := by omega
    simp only [State.orderRow, placesFrom, window]

/-! ## Query Sequencer -/

/-- The row of figures of the transfer in hand; 00h while the sequencer is IDLE (R189, R191). -/
def State.transferRow (s : State) : List (Nat × Nat) :=
  match s.transfer with
  | none => List.replicate 12 (1, 0)
  | some t =>
    [(1, t.phase.code + 8 * t.releasing.toNat), (1, t.feeder.val), (1, sideCode t.fromSide),
     (1, slotCode (t.fromSide.bind fun d => (s.feeder t.feeder).bound.get d)), (1, sideCode (some t.target)),
     (1, slotCode ((s.feeder t.feeder).bound.get t.target)), (1, t.deadTime),
     (1, match t.fallback with
       | none => 0
       | some .targetStopped => 3
       | some .closeTimeout => 2),
     (2, t.deadline), (2, t.elapsed)]

/-- The row of figures of the last-outcome record; an empty one reads FFh, then 00h (R191). -/
def lastOutcomeRow : Option LastOutcome → List (Nat × Nat)
  | none => (1, 255) :: List.replicate 12 (1, 0)
  | some l =>
    [(1, l.feeder.val), (1, sideCode l.fromSide), (1, slotCode l.fromSet), (1, sideCode (some l.target)),
     (1, slotCode l.targetSet), (1, l.outcome.code), (1, l.reason.code), (1, l.phase.code + 8 * l.releasing.toNat),
     (3, l.minute), (2, l.elapsed)]

theorem transferBytes_eq (s : State) : s.transferBytes = layout s.transferRow := by
  unfold State.transferBytes State.transferRow
  cases s.transfer with
  | none => rfl
  | some t =>
    rcases fallback : t.fallback with _ | (_ | _) <;>
      simp only [layout, List.flatMap_cons, List.flatMap_nil, List.append_nil, List.append_assoc, byte_eq_be,
        fallback] <;> rfl

theorem lastOutcomeBytes_eq (l : Option LastOutcome) : lastOutcomeBytes l = layout (lastOutcomeRow l) := by
  cases l with
  | none => rfl
  | some l =>
    simp only [lastOutcomeBytes, lastOutcomeRow, layout, List.flatMap_cons, List.flatMap_nil, List.append_nil,
      List.append_assoc, byte_eq_be]
    rfl

/-- The row of figures of the sequencer readout (R191). -/
def State.sequencerRow (s : State) : List (Nat × Nat) :=
  s.transferRow ++ lastOutcomeRow s.lastOutcome
    ++ [(2, s.params.openTimeout), (2, s.params.closeTimeout), (2, s.params.minRuntime)]

theorem layout_sequencerRow (s : State) : layout s.sequencerRow = s.transferBytes ++ lastOutcomeBytes s.lastOutcome
    ++ be 2 s.params.openTimeout ++ be 2 s.params.closeTimeout ++ be 2 s.params.minRuntime := by
  rw [State.sequencerRow, layout_append, layout_append, ← transferBytes_eq, ← lastOutcomeBytes_eq]
  simp only [layout, List.flatMap_cons, List.flatMap_nil, List.append_nil, List.append_assoc]

theorem transferRow_width (s : State) : (s.transferRow.map (·.1)).sum = 12 := by
  unfold State.transferRow
  cases s.transfer <;> rfl

theorem lastOutcomeRow_width (l : Option LastOutcome) : ((lastOutcomeRow l).map (·.1)).sum = 13 := by
  cases l <;> rfl

/-- Settles O15: each readout is a row of figures, and the row gives the table of places. -/
theorem feederQueueAndSequencerReadouts : Obligations.FeederQueueAndSequencerReadouts := by
  intro s hopen
  refine ⟨fun b ch hcb active => ?feeder, execQueryQueue_reads hopen, ?sequencer⟩
  case feeder =>
    refine .ofLayout (s.feederRow ch) hopen rfl ?_ (by simp [State.feederRow, lastTransferRow]) rfl
    rw [channelOperand_ok hcb active, ok_bind, feederView_eq]
  case sequencer =>
    refine .ofLayout s.sequencerRow hopen (body := .ok ⟨.ok, layout s.sequencerRow, s⟩) ?_ rfl ?_ ?_
    · rw [layout_sequencerRow]
      rfl
    · rw [State.sequencerRow, List.map_append, List.map_append, List.sum_append, List.sum_append, transferRow_width,
        lastOutcomeRow_width]
      rfl
    · rw [State.sequencerRow, placesFrom_append, placesFrom_append, List.map_append, List.sum_append,
        transferRow_width, lastOutcomeRow_width]
      refine congrArg₂ (· ++ ·) (congrArg₂ (· ++ ·) ?_ ?_) rfl
      · unfold State.transferRow
        cases s.transfer <;> rfl
      · cases s.lastOutcome <;> rfl

end Sys2Proof.Machine
end

section
/-! What the port and the lines keep through work on the records (R172, R173, R175): the mode, the clock and the two
lines stand, a closed port takes no snapshot, and a part held in reset sets no flag. -/

namespace Sys2Proof.Machine

/-- The mode, the clock and the lines that a step keeps in agreement. -/
def State.lines (s : State) : SupplyMode × Clock × Bool × Bool := (s.mode, s.clock, s.pins.supplyOk, s.pins.resetN)

/-- Mode, clock and lines stand; a closed port takes no snapshot, and while RESET_N is low no flag is set. -/
structure KeepsPort (s t : State) : Prop where
  lines : t.lines = s.lines
  snapshot : s.portOpen = false → s.snapshot = none → t.snapshot = none
  flags : s.pins.resetN = false → s.flags = 0 → t.flags = 0

theorem State.lines_eq_iff {s t : State} : t.lines = s.lines ↔
    t.mode = s.mode ∧ t.clock = s.clock ∧ t.pins.supplyOk = s.pins.supplyOk ∧ t.pins.resetN = s.pins.resetN := by
  simp [State.lines]

namespace KeepsPort

variable {s t u : State}

theorem resetN (h : KeepsPort s t) : t.pins.resetN = s.pins.resetN := (State.lines_eq_iff.mp h.lines).2.2.2

theorem portOpen (h : KeepsPort s t) : t.portOpen = s.portOpen := by
  obtain ⟨mode, _, _, resetN⟩ := State.lines_eq_iff.mp h.lines
  rw [State.portOpen, mode, resetN]
  rfl

theorem trans (a : KeepsPort s t) (b : KeepsPort t u) : KeepsPort s u where
  lines := b.lines.trans a.lines
  snapshot closed none := b.snapshot (a.portOpen.trans closed) (a.snapshot closed none)
  flags low clear := b.flags (a.resetN.trans low) (a.flags low clear)

/-- Work beside the lines, the snapshot and the flags. -/
theorem beside (lines : t.lines = s.lines := by rfl) (snapshot : t.snapshot = s.snapshot := by rfl)
    (flags : t.flags = s.flags := by rfl) : KeepsPort s t :=
  ⟨lines, fun _ none => snapshot.trans none, fun _ clear => flags.trans clear⟩

theorem refl (s : State) : KeepsPort s s := .beside

/-- `trans` with the later work first, from which the state between is read off. -/
theorem after (b : KeepsPort t u) (a : KeepsPort s t) : KeepsPort s u := a.trans b

theorem ite {c : Prop} [Decidable c] (a : KeepsPort s t) (b : KeepsPort s u) :
    KeepsPort s (if c then t else u) := by
  split
  · exact a
  · exact b

theorem foldl {α : Type} {f : State → α → State} (each : ∀ s a, KeepsPort s (f s a)) (l : List α)
    (s : State) : KeepsPort s (l.foldl f s) := by
  induction l generalizing s with
  | nil => exact refl s
  | cons a l ih => exact (each s a).trans (ih _)

/-! ## Notices -/

/-- A notice while RESET_N is low is lost (R175). -/
theorem raise (s : State) (f : Flag) : KeepsPort s (s.raise f) := by
  rcases s.raise_cases f with same | ⟨high, _, raised⟩
  · rw [same]; exact refl s
  · rw [raised]
    exact ⟨rfl, fun _ none => by simp [none], fun low _ => absurd high (by rw [low]; nofun)⟩

theorem raiseIf (s : State) (c : Bool) (f : Flag) : KeepsPort s (s.raiseIf c f) := ite (raise s f) (refl s)

theorem raiseEntries (s : State) (before after : Conds) : KeepsPort s (s.raiseEntries before after) :=
  (raiseIf s _ _).trans <| (raiseIf _ _ _).trans <| (raiseIf _ _ _).trans (raiseIf _ _ _)

theorem writeSet (s : State) (i : SetSlot) (before after : SetRec) : KeepsPort s (s.writeSet i before after) :=
  KeepsPort.after (raiseEntries _ _ _) .beside

theorem postAccount (s : State) (a : AccountSlot) (r : Account) (cut : Bool) :
    KeepsPort s (s.postAccount a r cut) := after (raiseIf _ _ _) .beside

theorem billEnergy (s : State) (a : AccountSlot) (w : Nat) : KeepsPort s (s.billEnergy a w) := by
  unfold State.billEnergy
  split
  · exact refl s
  · exact postAccount s a _ _

theorem creditShare (s : State) (a : AccountSlot) (x : Nat) : KeepsPort s (s.creditShare a x) := by
  unfold State.creditShare
  split
  · exact refl s
  · exact postAccount s a _ _

theorem creditTank (s : State) (i : SetSlot) (inc : Nat) : KeepsPort s (s.creditTank i inc) := by
  unfold State.creditTank
  split
  · exact refl s
  · exact ite (refl s) ((writeSet s i _ _).trans (raiseIf _ _ _))

/-! ## Feeders, queue and sequencer -/

/-- Work on the feeders, the queue and the sequencer with RESET_N high. -/
theorem feederWork (work : FeederWork s t) (high : s.pins.resetN = true) : KeepsPort s t where
  lines := by
    have keeps := work.keepsOther
    have pins : t.pins = s.pins := congrArg (·.2.2.2.1) work.port
    rw [State.lines, keeps.mode, keeps.clock, pins]
    rfl
  snapshot _ none := work.notes.1 none
  flags low := absurd high (by rw [low]; nofun)

theorem putFeeder (s : State) (ch : Channel) (f : Feeder) : KeepsPort s (s.putFeeder ch f) := .beside

theorem flush (s : State) (ch : Channel) : KeepsPort s (s.flush ch) := by
  rw [State.flush_eq]
  exact .beside

theorem faultFeeder (s : State) (ch : Channel) (cause : FaultCause) : KeepsPort s (s.faultFeeder ch cause) := by
  rw [State.faultFeeder_flushed]
  exact after (raise _ _) ((flush s ch).trans .beside)

/-- While RESET_N is low a scan hands over nothing (R100). -/
theorem scan (s : State) : KeepsPort s s.scan := by
  cases line : s.pins.resetN with
  | true => exact feederWork (.scan s) line
  | false =>
    have idle : (s.scanPass false s.queue).1 = s := by
      rcases s.scanPass_cases s.queue with ⟨_, none_handed⟩ | ⟨_, o, _, _, _, ready, _⟩
      · rw [none_handed]
      · simp [State.canHandOver, line] at ready
    have scanned : s.scan = { s with queue := s.scan.queue } :=
      congrArg (fun u : State => { u with queue := s.scan.queue }) idle
    rw [scanned]
    exact .beside

theorem passOpenCheck (s : State) (ch : Channel) : KeepsPort s (s.passOpenCheck ch) := after (scan _) .beside

/-- While RESET_N is low the sequencer tests no phase (R119). -/
theorem feedbackSeen (s : State) (ch : Channel) (d : Side) : KeepsPort s (s.feedbackSeen ch d) := by
  cases line : s.pins.resetN with
  | true => exact feederWork (.feedbackSeen s ch d) line
  | false =>
    unfold State.feedbackSeen
    split
    · rw [line, Bool.and_false, Bool.false_and]
      exact refl s
    · exact ite (ite (passOpenCheck s ch) (refl s)) .beside

theorem expireOrders (s : State) : KeepsPort s s.expireOrders :=
  after (foldl (f := State.expireOne) (fun _ _ => after (raise _ _) .beside) _ _) .beside

/-! ## The evaluation -/

theorem relieved (s : State) (queue : List Order) (dropped : Bool) : KeepsPort s (s.relieved queue dropped) :=
  after (raiseIf _ _ _) .beside

theorem reliefAtEntry (s : State) (i : SetSlot) (before after : SetRec) :
    KeepsPort s (s.reliefAtEntry i before after) := by
  have generated (relief : Option SetSlot) (window : Nat) : KeepsPort s (s.generateRelief i relief window) := by
    obtain ⟨queue, dropped, e, _⟩ := State.generateRelief_same (s := s) (u := s)
      ⟨rfl, rfl, rfl, fun _ => rfl, fun _ => rfl⟩ i relief window
    rw [e]
    exact relieved s queue dropped
  exact ite (generated _ _) (refl s)

theorem creditShares (s : State) (shares : List (AccountSlot × Nat)) : KeepsPort s (s.creditShares shares) :=
  foldl (fun s (p : AccountSlot × Nat) => creditShare s p.1 p.2) shares s

theorem evaluate (s : State) (i : SetSlot) (secs : Nat) : KeepsPort s (s.evaluate i secs).1 := by
  cases found : s.set? i with
  | none => rw [State.evaluate_none found]; exact refl s
  | some r =>
    have collected : KeepsPort s (s.collectFeeders i secs) := by
      have frame := s.collectFeeders_eq i secs
      generalize s.collectFeeders i secs = u at frame ⊢
      rw [frame]
      exact .beside
    rw [State.evaluate_eq found]
    exact collected.trans <| (writeSet _ i _ _).trans <| (reliefAtEntry _ i _ _).trans (creditShares _ _)

end KeepsPort

/-- The port and the clock stand in order after work that keeps their lines. -/
theorem State.PortAndClock.keep {s t : State} (h : s.PortAndClock) (kept : KeepsPort s t) : t.PortAndClock := by
  obtain ⟨mode, clock, supplyOk, resetN⟩ := State.lines_eq_iff.mp kept.lines
  exact
    { modes := by rw [mode, supplyOk]; exact h.modes
      snapshots := fun closed =>
        have closed := kept.portOpen.symm.trans closed
        kept.snapshot closed (h.snapshots closed)
      held := fun low =>
        have low := resetN.symm.trans low
        kept.flags low (h.held low)
      minute := by rw [clock]; exact h.minute
      second := by rw [clock]; exact h.second
      invalid := by rw [clock]; exact h.invalid }

end Sys2Proof.Machine
end

section
/-! Rows that reach neither the feeders, the queue and the sequencer nor the lines, and leave the accounts in range:
the readouts, the commands of sets, curves, fuel, accounts and tariff, and the events of the fuel positions. -/

namespace Sys2Proof.Machine

/-! ## The range of one account (R146, R147) -/

/-- An account's running totals and its statement number stand in range. -/
structure Account.InRange (r : Account) : Prop where
  band : ∀ b : Band, r.band[b] ≤ 4294967295
  fuelShare : r.fuelShare ≤ 4294967295
  energyAccrual : r.energyAccrual ≤ 281474976710655
  fuelAccrual : r.fuelAccrual ≤ 281474976710655
  nextStatement : 1 ≤ r.nextStatement ∧ r.nextStatement ≤ 65535

/-- Every open account stands in range. -/
def State.AccountsInRange (s : State) : Prop := ∀ a r, s.account? a = some r → r.InRange

namespace Account.InRange

theorem fresh (code : BitVec 32) (label : List Byte) (start : Nat) : (Account.fresh code label start).InRange where
  band b := by simp [Account.fresh]
  fuelShare := Nat.zero_le _
  energyAccrual := Nat.zero_le _
  fuelAccrual := Nat.zero_le _
  nextStatement := by simp [Account.fresh]

variable {r : Account} (h : r.InRange)
include h

/-- What an account has beside its totals and its number. -/
theorem beside {code : BitVec 32} {label : List Byte} {start : Nat} {hold saturated : Bool} {st : Option Statement} :
    ({ r with code := code, label := label, periodStart := start, hold := hold, saturated := saturated
              statement := st } : Account).InRange := { h with }

/-- A settlement clears the totals; the number after 65,535 is 1 (R162). -/
theorem settled (minute : Nat) : (r.settled minute).InRange where
  band b := by simp [Account.settled]
  fuelShare := Nat.zero_le _
  energyAccrual := Nat.zero_le _
  fuelAccrual := Nat.zero_le _
  nextStatement := by
    have number := h.nextStatement
    dsimp only [Account.settled]
    split <;> omega

/-- Energy billed in a band saturates (R51, R147). -/
theorem billed (b : Band) (w cents : Nat) : ({ r with
    band := r.band.set b (satAdd max32 r.band[b] w)
    energyAccrual := satAdd max48 r.energyAccrual cents } : Account).InRange where
  band c := by
    by_cases e : b = c
    · subst e; simpa [max32] using satAdd_le max32 r.band[b] w
    · have apart : b.val ≠ c.val := fun same => e (Fin.ext same)
      simpa [Vector.getElem_set_ne _ _ apart] using h.band c
  fuelShare := h.fuelShare
  energyAccrual := satAdd_le _ _ _
  fuelAccrual := h.fuelAccrual
  nextStatement := h.nextStatement

/-- A share credited saturates (R80, R147). -/
theorem credited (x cents : Nat) : ({ r with
    fuelShare := satAdd max32 r.fuelShare x, fuelAccrual := satAdd max48 r.fuelAccrual cents } : Account).InRange where
  band := h.band
  fuelShare := satAdd_le _ _ _
  energyAccrual := h.energyAccrual
  fuelAccrual := satAdd_le _ _ _
  nextStatement := h.nextStatement

end Account.InRange

namespace State.AccountsInRange

variable {s t : State} (h : s.AccountsInRange)
include h

theorem beside (accounts : t.accounts = s.accounts := by rfl) : t.AccountsInRange := fun a r found =>
  h a r (by rw [State.account?, ← accounts]; exact found)

theorem putAccount {a : AccountSlot} {r : Option Account} (range : ∀ x, r = some x → x.InRange) :
    (s.putAccount a r).AccountsInRange := fun b x found => by
  by_cases e : b = a
  · subst e; exact range x (by simpa using found)
  · rw [State.account?_putAccount_ne _ _ e] at found; exact h b x found

theorem postAccount {a : AccountSlot} {r : Account} (range : r.InRange) (cut : Bool) :
    (s.postAccount a r cut).AccountsInRange := by
  rw [State.postAccount_eq]
  have written := h.putAccount (a := a) (r := some { r with saturated := r.saturated || cut }) fun x e => by
    cases e; exact range.beside
  exact written.beside

theorem billEnergy (a : AccountSlot) (w : Nat) : (s.billEnergy a w).AccountsInRange := by
  unfold State.billEnergy
  split
  · exact h
  · exact h.postAccount ((h a _ ‹_›).billed _ _ _) _

theorem creditShare (a : AccountSlot) (x : Nat) : (s.creditShare a x).AccountsInRange := by
  unfold State.creditShare
  split
  · exact h
  · exact h.postAccount ((h a _ ‹_›).credited _ _) _

omit h in
theorem creditShares (shares : List (AccountSlot × Nat)) {s : State} (h : s.AccountsInRange) :
    (s.creditShares shares).AccountsInRange := by
  induction shares generalizing s with
  | nil => exact h
  | cons p rest ih => exact ih (h.creditShare p.1 p.2)

end State.AccountsInRange

/-! ## Plain work -/

/-- What the feeders, the queue and the sequencer are made of, with the straps and the transfer parameters. -/
def State.wiring (s : State) : Vector Feeder 16 × Option Transfer × List Order × Straps × Params :=
  (s.feeders, s.transfer, s.queue, s.straps, s.params)

/-- The feeders, the queue, the sequencer, the straps and the transfer parameters stand, the accounts stay in range,
and the port and the lines are kept. -/
structure PlainWork (s t : State) : Prop where
  wiring : t.wiring = s.wiring
  accounts : s.AccountsInRange → t.AccountsInRange
  port : KeepsPort s t

namespace PlainWork

variable {s t u : State}

theorem trans (a : PlainWork s t) (b : PlainWork t u) : PlainWork s u where
  wiring := b.wiring.trans a.wiring
  accounts h := b.accounts (a.accounts h)
  port := a.port.trans b.port

/-- Work beside all that. -/
theorem beside (wiring : t.wiring = s.wiring := by rfl) (accounts : t.accounts = s.accounts := by rfl)
    (lines : t.lines = s.lines := by rfl) (snapshot : t.snapshot = s.snapshot := by rfl)
    (flags : t.flags = s.flags := by rfl) : PlainWork s t :=
  ⟨wiring, fun h => h.beside accounts, .beside lines snapshot flags⟩

theorem refl (s : State) : PlainWork s s := .beside

/-- `trans` with the later work first, from which the state between is read off. -/
theorem after (b : PlainWork t u) (a : PlainWork s t) : PlainWork s u := a.trans b

theorem ite {c : Prop} [Decidable c] (a : PlainWork s t) (b : PlainWork s u) :
    PlainWork s (if c then t else u) := by
  split
  · exact a
  · exact b

/-- A write of one account that stays in range. -/
theorem putAccount {a : AccountSlot} {r : Option Account} (range : s.AccountsInRange → ∀ x, r = some x → x.InRange) :
    PlainWork s (s.putAccount a r) := ⟨rfl, fun h => h.putAccount (range h), .beside⟩

/-- Notices, whatever else they go with, are plain. -/
theorem raise (s : State) (f : Flag) : PlainWork s (s.raise f) where
  wiring := by rw [State.raise_eq]; rfl
  accounts h := by rw [State.raise_eq]; exact h.beside
  port := .raise s f

theorem raiseIf (s : State) (c : Bool) (f : Flag) : PlainWork s (s.raiseIf c f) := ite (raise s f) (refl s)

theorem raiseEntries (s : State) (before after : Conds) : PlainWork s (s.raiseEntries before after) :=
  (raiseIf s _ _).trans <| (raiseIf _ _ _).trans <| (raiseIf _ _ _).trans (raiseIf _ _ _)

theorem writeSet (s : State) (i : SetSlot) (before after : SetRec) : PlainWork s (s.writeSet i before after) :=
  PlainWork.after (raiseEntries _ _ _) .beside

theorem creditTank (s : State) (i : SetSlot) (inc : Nat) : PlainWork s (s.creditTank i inc) := by
  unfold State.creditTank
  split
  · exact refl s
  · exact ite (refl s) ((writeSet s i _ _).trans (raiseIf _ _ _))

/-! ## The rows -/

theorem serve {body : Except Status Reply} (leads : Leads (PlainWork s) body)
    (next : Machine.serve s body = .next t) : PlainWork s t :=
  Leads.serve (fun _ _ _ h => h.trans .beside) (refl s) leads next

/-- A rule that reads, behind any checks, is plain. -/
theorem reads (s : State) {st : Status} {data : List Byte} : Leads (PlainWork s) (.ok ⟨st, data, s⟩) :=
  .ok (refl s)

theorem ofNext (h : PlainWork s u)
    (next : (Host.Outcome.next u : Host.Outcome State Fault Refusal) = .next t) : PlainWork s t := by
  cases next
  exact h

theorem readAttention (bits : Nat) (next : execReadAttention bits s = .next t) : PlainWork s t := by
  refine ofNext ?_ next
  split
  · exact .beside
  · refine ite ⟨rfl, fun h => h.beside, rfl, fun _ _ => rfl, fun _ clear => ?_⟩
      ⟨rfl, fun h => h.beside, rfl, fun _ _ => rfl, fun _ clear => clear⟩
    simp [clear]

/-- A closed port takes no snapshot (R173, R175). -/
theorem snapshot (next : execSnapshot s = .next t) : PlainWork s t := by
  refine ofNext ?_ next
  split
  · rename_i opened
    exact ⟨rfl, fun h => h.beside, rfl, fun closed => absurd opened (by rw [closed]; nofun), fun _ clear => clear⟩
  · exact refl s

theorem findSet (unit : BitVec 32) (next : execFindSet unit s = .next t) : PlainWork s t := by
  refine serve ?_ next
  split
  · exact reads s
  · exact .error _

theorem findAccount (code : BitVec 32) (next : execFindAccount code s = .next t) : PlainWork s t := by
  refine serve ?_ next
  split
  · exact reads s
  · exact .error _

theorem fetchStatement (slot : Byte) (next : execFetchStatement slot s = .next t) : PlainWork s t := by
  refine serve (.bind fun _ _ => .bind fun _ _ => ?_) next
  split
  · exact .error _
  · exact reads s

theorem hireSet {unit : BitVec 32} {rating : BitVec 16} {capacity : BitVec 32} {curve : Byte} {minHire : BitVec 16}
    {dayRate tank : BitVec 32} (next : execHireSet unit rating capacity curve minHire dayRate tank s = .next t) :
    PlainWork s t := by
  refine serve (.bind fun _ _ => .bind fun _ _ => .bind fun _ _ => .bind fun _ _ => .bind fun _ _ =>
    .bind fun _ _ => .bind fun _ _ => ?_) next
  split
  · exact .error _
  · exact .ok (after (raiseEntries _ _ _) .beside)

theorem loadCurvePoint {value : BitVec 32} (next : execLoadCurvePoint value s = .next t) : PlainWork s t := by
  refine serve ?_ next
  split
  · exact .error _
  · refine .ok ?_
    split <;> exact .beside

theorem closeTicket {position : Byte} {docket : BitVec 24} (next : execCloseTicket position docket s = .next t) :
    PlainWork s t := by
  refine serve (.bind fun p _ => .bind fun _ _ => ?_) next
  split
  · exact reads s
  · exact .ite (fun _ => reads s) fun _ => .ite (fun _ => reads s) fun _ =>
      .ite (fun _ => .ok .beside) fun _ => reads s

theorem cancelTicket {position : Byte} (next : execCancelTicket position s = .next t) : PlainWork s t := by
  refine serve (.bind fun p _ => ?_) next
  split
  · exact .error _
  · exact .bind fun _ _ => .ok .beside

theorem openAccount {code : BitVec 32} {label : List Byte} (next : execOpenAccount code label s = .next t) :
    PlainWork s t := by
  refine serve (.bind fun _ _ => ?_) next
  split
  · exact .error _
  · exact .ok (putAccount fun _ x e => by cases e; exact .fresh _ _ _)

theorem settleAccount {slot : Byte} (next : execSettleAccount slot s = .next t) : PlainWork s t := by
  refine serve (.bind fun a _ => .bind fun r opened => .bind fun _ _ => .bind fun _ _ => .bind fun _ _ =>
    .ok (putAccount fun h x e => ?_)) next
  cases e
  exact (h a r (openSlot_eq_ok opened)).settled _

theorem releaseStatement {slot : Byte} (next : execReleaseStatement slot s = .next t) : PlainWork s t := by
  refine serve (.bind fun a _ => .bind fun r opened => ?_) next
  split
  · exact .error _
  · refine .ok (putAccount fun h x e => ?_)
    cases e
    exact (h a r (openSlot_eq_ok opened)).beside

theorem retireAccount {slot : Byte} (next : execRetireAccount slot s = .next t) : PlainWork s t := by
  refine serve (.bind fun _ _ => .bind fun _ _ => .bind fun _ _ => .bind fun _ _ => .bind fun _ _ =>
    .bind fun _ _ => .bind fun _ _ => .ok (after (putAccount fun _ _ e => by cases e) .beside)) next

theorem placeHold {slot : Byte} (next : execPlaceHold slot s = .next t) : PlainWork s t := by
  refine serve (.bind fun a _ => .bind fun r opened => .ok (putAccount fun h x e => ?_)) next
  cases e
  exact (h a r (openSlot_eq_ok opened)).beside

theorem releaseAllHolds (next : execReleaseAllHolds s = .next t) : PlainWork s t := by
  have released : PlainWork s
      { s with accounts := s.accounts.map (Option.map fun r => { r with hold := false }) } := by
    refine ⟨rfl, fun h a x found => ?_, .beside⟩
    rw [State.account?_map] at found
    obtain ⟨r, held, rfl⟩ := Option.map_eq_some_iff.mp found
    exact (h a r held).beside
  exact serve (.ok released) next

theorem fuelPulse {p : PositionNo} (next : execFuelPulse p s = .next t) : PlainWork s t := by
  refine ofNext ?_ next
  dsimp only
  split
  · exact after (raise _ _) .beside
  · exact ite (after (raiseIf _ _ _) (after (raiseIf _ _ _) .beside)) (after (raise _ _) .beside)

theorem nozzleLift {p : PositionNo} (next : execNozzleLift p s = .next t) : PlainWork s t := by
  refine ofNext (ite (refl s) ?_) next
  dsimp only
  split
  · exact .beside
  · exact ite .beside .beside

theorem hangUp {p : PositionNo} (next : execHangUp p s = .next t) : PlainWork s t := by
  refine ofNext (ite (refl s) ?_) next
  dsimp only
  split
  · exact .beside
  · exact ite (after (raise _ _) (after (creditTank _ _ _) .beside)) .beside

end PlainWork

/-- The rows that do plain work: all but those of the Feeder Bank, the queue and the sequencer, those that evaluate
a set, and those of the clock, the lines and the resets. -/
def plainRow : Instr → Bool
  | .restart | .setClock .. | .reportRun .. | .bindSide .. | .assignFeederAccount .. | .setFeederParameters ..
  | .openFeeder .. | .reconcileFeeder .. | .enqueueOrder .. | .cancelOrder .. | .setTransferParameters ..
  | .energyPulse .. | .feedbackChange .. | .disagreementTimerExpiry .. | .openCheckDeadline .. | .intervalExpiry ..
  | .openTimeout | .deadTimeExpiry | .closeTimeout | .releaseDeadline | .fallbackTimeout | .siteSecondAdvance
  | .supplyOkFall | .supplyOkRise | .resumeTimerExpiry | .resetNFall | .resetNRise .. | .coldStart ..
  | .unknownCommand .. => false
  | _ => true

/-- Every plain row does plain work. -/
theorem exec_plain {s t : State} : ∀ c : Instr, plainRow c = true → exec c s = .next t → PlainWork s t
  | .fetchResult _, _, h => .ofNext (.ite .beside .beside) h
  | .readAttention bits, _, h => .readAttention bits h
  | .snapshot, _, h => .snapshot h
  | .setAttentionMask _, _, h => .serve (.ok .beside) h
  | .identify, _, h => .serve (.reads s) h
  | .queryClock, _, h => .serve (.reads s) h
  | .hireSet _ _ _ _ _ _ _, _, h => .hireSet h
  | .querySet _ _, _, h => .serve (.bind fun _ _ => .bind fun _ _ => .bind fun _ _ => .reads s) h
  | .findSet unit, _, h => .findSet unit h
  | .amendSet _ _ _ _ _ _ _, _, h => .serve (.bind fun i _ => .bind fun _ _ => .bind fun _ _ => .bind fun _ _ =>
      .bind fun _ _ => .bind fun _ _ => .bind fun _ _ => .bind fun _ _ => .ok (.writeSet s i _ _)) h
  | .dipSet _ _, _, h => .serve (.bind fun i _ => .bind fun _ _ => .ok (.writeSet s i _ _)) h
  | .offHireSet _, _, h => .serve (.bind fun _ _ => .bind fun _ _ => .bind fun _ _ => .bind fun _ _ =>
      .bind fun _ _ => .ok .beside) h
  | .beginCurve _, _, h => .serve (.bind fun _ _ => .ok .beside) h
  | .loadCurvePoint _, _, h => .loadCurvePoint h
  | .queryCurve _, _, h => .serve (.bind fun _ _ => .reads s) h
  | .queryFeeder _, _, h => .serve (.bind fun _ _ => .reads s) h
  | .queryQueue, _, h => .serve (.reads s) h
  | .querySequencer, _, h => .serve (.reads s) h
  | .registerSupplier _ _, _, h => .serve (.bind fun _ _ => .bind fun _ _ => .bind fun _ _ => .ok .beside) h
  | .querySupplier _, _, h => .serve (.bind fun _ _ => .reads s) h
  | .openTicket _ _ _ _, _, h => .serve (.bind fun _ _ => .bind fun _ _ => .bind fun _ _ => .bind fun _ _ =>
      .bind fun _ _ => .bind fun _ _ => .bind fun _ _ => .ok .beside) h
  | .setPermitMode _ _, _, h => .serve (.bind fun _ _ => .bind fun _ _ =>
      .ite (fun _ => .reads s) fun _ => .ok .beside) h
  | .closeTicket _ _, _, h => .closeTicket h
  | .cancelTicket _, _, h => .cancelTicket h
  | .queryPosition _, _, h => .serve (.bind fun _ _ => .reads s) h
  | .openAccount _ _, _, h => .openAccount h
  | .queryAccount _, _, h => .serve (.bind fun _ _ => .bind fun _ _ => .reads s) h
  | .findAccount code, _, h => .findAccount code h
  | .settleAccount _, _, h => .settleAccount h
  | .fetchStatement slot, _, h => .fetchStatement slot h
  | .releaseStatement _, _, h => .releaseStatement h
  | .retireAccount _, _, h => .retireAccount h
  | .placeHold _, _, h => .placeHold h
  | .releaseAllHolds, _, h => .releaseAllHolds h
  | .setBandRate _ _, _, h => .serve (.bind fun _ _ => .ok .beside) h
  | .setFuelPrice _, _, h => .serve (.ok .beside) h
  | .setScheduleSlot _ _, _, h => .serve (.bind fun _ _ => .bind fun _ _ => .ok .beside) h
  | .queryTariff, _, h => .serve (.reads s) h
  | .fuelPulse _, _, h => .fuelPulse h
  | .nozzleLift _, _, h => .nozzleLift h
  | .hangUp _, _, h => .hangUp h

end Sys2Proof.Machine
end

section
/-! The expiries of a transfer's deadline, which only a high RESET_N lets happen (R108 to R112, R119). -/

namespace Sys2Proof.Machine

/-- An expiry of the sequencer does not happen, or does feeder work with RESET_N high. -/
def DeadlineWork (s t : State) : Prop := t = s ∨ s.pins.resetN = true ∧ FeederWork s t

namespace DeadlineWork

variable {s t : State}

/-- A deadline that has run out leads to feeder work, and otherwise nothing happens. -/
theorem due {f : Transfer → State} (work : ∀ x, FeederWork s (f x))
    (next : (Host.Outcome.next (match s.deadlineDue with
      | some x => f x
      | none => s) : Host.Outcome State Fault Refusal) = .next t) : DeadlineWork s t := by
  cases due : s.deadlineDue with
  | none => rw [due] at next; cases next; exact .inl rfl
  | some x =>
    rw [due] at next
    cases next
    exact .inr ⟨(State.deadlineDue_eq_some.mp due).2.1, work x⟩

theorem openTimeout (next : execOpenTimeout s = .next t) : DeadlineWork s t := by
  refine due (fun x => ?_) next
  split
  · exact (FeederWork.openTimedOut s _ _).trans (.scanIfIdle _)
  · exact .refl s

theorem deadTimeExpiry (next : execDeadTimeExpiry s = .next t) : DeadlineWork s t := by
  refine due (fun x => ?_) next
  split
  · exact .ite ((FeederWork.beginClosing s _).trans (.scanIfIdle _))
      ((FeederWork.beginFallback s _ _ _).trans (.scanIfIdle _))
  · exact .refl s

theorem closeTimeout (next : execCloseTimeout s = .next t) : DeadlineWork s t := by
  refine due (fun x => ?_) next
  split
  · exact (FeederWork.beginFallback s _ _ _).trans (.scanIfIdle _)
  · exact (FeederWork.beginReleasing s _).trans (.scanIfIdle _)
  · exact .refl s

theorem releaseDeadline (next : execReleaseDeadline s = .next t) : DeadlineWork s t := by
  refine due (fun x => ?_) next
  split
  · exact (FeederWork.endTransfer s _ _ _ _ _ _).trans (.scanIfIdle _)
  · exact .refl s

theorem fallbackTimeout (next : execFallbackTimeout s = .next t) : DeadlineWork s t := by
  refine due (fun x => ?_) next
  split
  · exact (FeederWork.endTransfer s _ _ _ _ _ _).trans (.scanIfIdle _)
  · exact .refl s

theorem feederWork (h : DeadlineWork s t) : FeederWork s t := by
  rcases h with rfl | ⟨_, work⟩
  · exact .refl _
  · exact work

theorem keepsPort (h : DeadlineWork s t) : KeepsPort s t := by
  rcases h with rfl | ⟨high, work⟩
  · exact .refl _
  · exact .feederWork work high

end DeadlineWork

end Sys2Proof.Machine
end

section
/-! The figures of the feeders, the accounts and the transfer parameters stay in range (R46, R48, R120, R146, R147):
every row and every step. -/

namespace Sys2Proof.Machine

/-! ## One record -/

/-- A feeder's parameters and figures stand in range. -/
structure Feeder.InRange (f : Feeder) : Prop where
  weight : f.weight = 1 ∨ f.weight = 10 ∨ f.weight = 100
  deadTime : 2 ≤ f.deadTime ∧ f.deadTime ≤ 30
  interval : f.interval ≤ 16777215
  lifetime : f.lifetime ≤ 4294967295
  demand : f.demand ≤ 4294967295

/-- The transfer parameters stand in range. -/
structure Params.InRange (p : Params) : Prop where
  openTimeout : 50 ≤ p.openTimeout ∧ p.openTimeout ≤ 2000
  closeTimeout : 50 ≤ p.closeTimeout ∧ p.closeTimeout ≤ 2000
  minRuntime : p.minRuntime ≤ 600

theorem Feeder.InRange.cold : Feeder.cold.InRange := by
  constructor <;> decide

/-- A record with the same terms and no more interval energy. -/
theorem Feeder.InRange.ofTerms {f g : Feeder} (h : f.InRange) (terms : g.sameTerms f)
    (interval : g.interval = f.interval ∨ g.interval = 0) : g.InRange := by
  obtain ⟨_, _, weight, deadTime, lifetime, demand⟩ := terms
  refine ⟨weight ▸ h.weight, deadTime ▸ h.deadTime, ?_, lifetime ▸ h.lifetime, demand ▸ h.demand⟩
  rcases interval with e | e <;> rw [e]
  · exact h.interval
  · exact Nat.zero_le _

/-- A pulse saturates the interval and the lifetime energy (R50, R147). -/
theorem Feeder.InRange.pulsed {f : Feeder} (h : f.InRange) : ({ f with
    interval := satAdd max24 f.interval f.weight, lifetime := satAdd max32 f.lifetime f.weight } : Feeder).InRange :=
  ⟨h.weight, h.deadTime, satAdd_le _ _ _, satAdd_le _ _ _, h.demand⟩

/-- The last demand is cut at its field (R34). -/
theorem Feeder.InRange.collected {f : Feeder} (h : f.InRange) (secs : Nat) : (f.collected secs).InRange :=
  ⟨h.weight, h.deadTime, Nat.zero_le _, h.lifetime, Nat.min_le_left _ _⟩

theorem clampTo_range {lo hi : Nat} (bounds : lo ≤ hi) (v : Nat) : lo ≤ clampTo lo hi v ∧ clampTo lo hi v ≤ hi := by
  rw [clampTo_eq bounds]
  omega

/-! ## The state -/

theorem State.totalsInRange_iff {s : State} : s.TotalsInRange ↔
    (∀ ch, (s.feeder ch).InRange) ∧ s.AccountsInRange ∧ s.params.InRange := by
  constructor
  · intro h
    exact ⟨fun ch => ⟨h.weight ch, h.deadTime ch, h.interval ch, h.lifetime ch, h.demand ch⟩,
      fun a r found => ⟨h.band a r found, h.fuelShare a r found, h.energyAccrual a r found, h.fuelAccrual a r found,
        h.statementNumber a r found⟩, ⟨h.openTimeout, h.closeTimeout, h.minRuntime⟩⟩
  · rintro ⟨feeders, accounts, params⟩
    exact
      { weight := fun ch => (feeders ch).weight
        deadTime := fun ch => (feeders ch).deadTime
        interval := fun ch => (feeders ch).interval
        lifetime := fun ch => (feeders ch).lifetime
        demand := fun ch => (feeders ch).demand
        band := fun a r found => (accounts a r found).band
        fuelShare := fun a r found => (accounts a r found).fuelShare
        energyAccrual := fun a r found => (accounts a r found).energyAccrual
        fuelAccrual := fun a r found => (accounts a r found).fuelAccrual
        statementNumber := fun a r found => (accounts a r found).nextStatement
        openTimeout := params.openTimeout
        closeTimeout := params.closeTimeout
        minRuntime := params.minRuntime }

namespace State.TotalsInRange

variable {s t : State} (h : s.TotalsInRange)
include h

theorem feeders (ch : Channel) : (s.feeder ch).InRange := (State.totalsInRange_iff.mp h).1 ch

theorem accounts : s.AccountsInRange := (State.totalsInRange_iff.mp h).2.1

theorem params : s.params.InRange := (State.totalsInRange_iff.mp h).2.2

/-- Work that leaves the transfer parameters as they are. -/
theorem records (feeders : ∀ ch, (t.feeder ch).InRange) (accounts : t.AccountsInRange)
    (params : t.params = s.params := by rfl) : t.TotalsInRange :=
  State.totalsInRange_iff.mpr ⟨feeders, accounts, by rw [params]; exact h.params⟩

/-- Work beside the feeders, the accounts and the parameters. -/
theorem beside (feeders : t.feeders = s.feeders := by rfl) (accounts : t.accounts = s.accounts := by rfl)
    (params : t.params = s.params := by rfl) : t.TotalsInRange :=
  h.records (fun ch => by rw [State.feeder, feeders]; exact h.feeders ch) (h.accounts.beside accounts) params

theorem putFeeder {ch : Channel} {f : Feeder} (range : f.InRange) : (s.putFeeder ch f).TotalsInRange := by
  refine h.records (fun c => ?_) h.accounts.beside
  by_cases e : c = ch
  · subst e; simpa using range
  · rw [State.feeder_putFeeder_ne _ _ e]; exact h.feeders c

/-- Work on the feeders, the queue and the sequencer keeps every figure of a feeder but the energy it flushes. -/
theorem feederWork (work : FeederWork s t) : t.TotalsInRange :=
  h.records (fun ch => (h.feeders ch).ofTerms (work.keepsOther.feeders ch) (work.quiet.interval ch))
    (h.accounts.beside work.quiet.accounts) work.keepsOther.params

theorem plain (work : PlainWork s t) : t.TotalsInRange := by
  have feeders : t.feeders = s.feeders := congrArg (·.1) work.wiring
  refine h.records (fun ch => by rw [State.feeder, feeders]; exact h.feeders ch) (work.accounts h.accounts) ?_
  exact congrArg (·.2.2.2.2) work.wiring

theorem updSet (i : SetSlot) (g : SetRec → SetRec) : (s.updSet i g).TotalsInRange := h.beside

/-- An evaluation collects feeders and credits shares (R34, R80). -/
theorem evaluate (i : SetSlot) (secs : Nat) : (s.evaluate i secs).1.TotalsInRange := by
  cases found : s.set? i with
  | none => rw [State.evaluate_none found]; exact h
  | some r =>
    have frame := State.evaluate_frame found secs
    refine h.records (fun ch => ?_) ?_ (by rw [frame, State.collectFeeders_eq]; rfl)
    · rw [State.feeder_evaluate found, State.feeder_collectFeeders]
      split
      · exact (h.feeders ch).collected secs
      · exact h.feeders ch
    · rw [State.evaluate_eq found]
      refine .creditShares _ (h.accounts.beside ?_)
      rw [State.reliefAtEntry_eq, State.writeSet_eq, State.collectFeeders_eq]
      rfl

theorem serve {body : Except Status Reply} (leads : Leads State.TotalsInRange body)
    (next : Machine.serve s body = .next t) : t.TotalsInRange :=
  Leads.serve (fun _ _ _ h => h.beside) h leads next

omit h in
theorem ofNext {u : State} (h : u.TotalsInRange)
    (next : (Host.Outcome.next u : Host.Outcome State Fault Refusal) = .next t) : t.TotalsInRange := by
  cases next
  exact h

/-! ## The rows that are not plain -/

theorem restart (next : execRestart s = .next t) : t.TotalsInRange := by
  refine ofNext ?_ next
  split
  · have port : s.resetPort.TotalsInRange := h.beside
    exact (port.feederWork ((FeederWork.resetTransfer _).trans <| (FeederWork.rederiveRest _ _).trans
      (.scan _))).beside
  · exact h.beside

theorem setClock {minute : BitVec 24} (next : execSetClock minute s = .next t) : t.TotalsInRange := by
  refine h.serve (.bind fun _ _ => .ok ?_) next
  have set (c : Clock) : ({ s with clock := c } : State).applyTariff.TotalsInRange := h.beside
  exact (set _).feederWork ((FeederWork.expireOrders _).trans (.scan _))

theorem reportRun {slot report : Byte} (next : execReportRun slot report s = .next t) : t.TotalsInRange := by
  refine h.serve (.bind fun i _ => .bind fun _ _ => .bind fun r _ => .bind fun _ _ =>
    .ite (fun _ => .ok ?_) fun _ => .ok ?_) next
  · exact (h.updSet i _).feederWork (.scan _)
  · have partly : (s.partialEvaluation i (r.timer / 1000)).1.TotalsInRange := by
      unfold State.partialEvaluation
      split
      · exact h
      · exact h.evaluate i _
    exact (partly.updSet i _).feederWork (.scan _)

theorem bindSide {channel side slot : Byte} (next : execBindSide channel side slot s = .next t) :
    t.TotalsInRange := by
  refine h.serve (.bind fun ch _ => .bind fun _ _ => .bind fun _ _ => .bind fun _ _ => .bind fun _ _ =>
    .bind fun _ _ => .bind fun _ _ => .bind fun _ _ => .ok (h.putFeeder ?_)) next
  exact { h.feeders ch with }

theorem assignFeederAccount {channel account : Byte} (next : execAssignFeederAccount channel account s = .next t) :
    t.TotalsInRange := by
  refine h.serve (.bind fun ch _ => .bind fun _ _ => .bind fun _ _ => .bind fun _ _ => .ok ?_) next
  have flushed := h.feederWork (.flush s ch)
  exact flushed.putFeeder { flushed.feeders ch with }

theorem setFeederParameters {channel weight deadTime : Byte}
    (next : execSetFeederParameters channel weight deadTime s = .next t) : t.TotalsInRange := by
  refine h.serve (.bind fun ch _ => .bind fun _ weighed => .bind fun _ _ => .ok (h.putFeeder ?_)) next
  have weighed := require_eq_ok weighed
  rw [weight_check, decide_eq_true_iff] at weighed
  exact { h.feeders ch with weight := weighed, deadTime := clampTo_range (by decide) _ }

theorem openFeeder {channel : Byte} (next : execOpenFeeder channel s = .next t) : t.TotalsInRange := by
  refine h.serve (.bind fun ch _ => .ok ?_) next
  split
  · exact h
  · exact h.feederWork ((FeederWork.openByCommand s ch).trans (.scan _))
  · exact h.feederWork (.openByCommand s ch)

theorem reconcileFeeder {channel : Byte} (next : execReconcileFeeder channel s = .next t) : t.TotalsInRange := by
  refine h.serve (.bind fun ch _ => .ite (fun _ => .ok ?_) fun _ => .ok h) next
  exact h.feederWork ((FeederWork.state s ch).trans <| (FeederWork.rewatch _ ch 0).trans (.scan _))

theorem enqueueOrder {channel side : Byte} {startMin endMin : BitVec 24}
    (next : execEnqueueOrder channel side startMin endMin s = .next t) : t.TotalsInRange := by
  refine h.serve (.bind fun _ _ => .bind fun _ _ => .bind fun _ _ => .bind fun _ _ => .bind fun _ _ =>
    .bind fun _ _ => .bind fun _ _ => .bind fun _ _ => .bind fun _ _ => .bind fun _ _ => .bind fun _ _ => .ok ?_) next
  have queued (q : List Order) : ({ s with queue := q } : State).TotalsInRange := h.beside
  exact (queued _).feederWork (.scan _)

theorem cancelOrder {channel : Byte} (next : execCancelOrder channel s = .next t) : t.TotalsInRange := by
  refine h.serve (.bind fun ch _ => .bind fun _ _ => ?_) next
  split
  · exact .error _
  · exact .ok (h.feederWork (.removeOrder s ch _ _))

theorem setTransferParameters {o c m : BitVec 16} (next : execSetTransferParameters o c m s = .next t) :
    t.TotalsInRange := by
  have stored (p : Params) (range : p.InRange) : ({ s with params := p } : State).TotalsInRange :=
    State.totalsInRange_iff.mpr ⟨h.feeders, h.accounts.beside, range⟩
  refine h.serve (.ok (stored _ ?_)) next
  exact ⟨clampTo_range (by decide) _, clampTo_range (by decide) _, (clampTo_range (Nat.zero_le _) _).2⟩

theorem energyPulse {ch : Channel} (next : execEnergyPulse ch s = .next t) : t.TotalsInRange := by
  refine ofNext ?_ next
  split
  · have pulsed := h.putFeeder (ch := ch) (h.feeders ch).pulsed
    refine pulsed.records (fun c => ?_) (pulsed.accounts.billEnergy _ _) (by rw [State.billEnergy_eq])
    rw [State.billEnergy_eq]
    exact pulsed.feeders c
  · exact h

theorem feedbackChange {ch : Channel} {d : Side} {level : Bool}
    (next : execFeedbackChange ch d level s = .next t) : t.TotalsInRange := by
  have moved : (s.setFeedback ch d level).TotalsInRange := h.beside
  refine ofNext ?_ next
  split
  · exact h
  · dsimp only
    split
    · exact moved.feederWork (.feedbackSeen _ ch d)
    · exact moved

theorem intervalExpiry {i : SetSlot} (next : execIntervalExpiry i s = .next t) : t.TotalsInRange := by
  refine ofNext ?_ next
  split
  · exact h
  · split
    · exact ((h.evaluate i 60).updSet i _).feederWork (.scan _)
    · exact h

theorem minuteAdvance : s.minuteAdvance.TotalsInRange := by
  have expired {u : State} (h : u.TotalsInRange) : u.expireOrders.scan.TotalsInRange :=
    h.feederWork ((FeederWork.expireOrders _).trans (.scan _))
  refine expired ?_
  split <;> exact h.beside

theorem siteSecondAdvance (next : execSiteSecondAdvance s = .next t) : t.TotalsInRange := by
  have advanced (c : Clock) : ({ s with clock := c } : State).TotalsInRange := h.beside
  refine ofNext ?_ next
  split
  · unfold State.secondAdvance
    split
    · exact advanced _
    · dsimp only
      split
      · exact (advanced _).minuteAdvance
      · exact advanced _
  · exact h

theorem resumeTimerExpiry (next : execResumeTimerExpiry s = .next t) : t.TotalsInRange := by
  have active : ({ s with mode := .active } : State).TotalsInRange := h.beside
  refine ofNext ?_ next
  split
  · exact active.feederWork ((FeederWork.raise _ _).trans (.scan _))
  · exact h

theorem resetNRise {x : Straps} (next : execResetNRise x s = .next t) : t.TotalsInRange := by
  refine ofNext ?_ next
  split
  · exact h
  · have port : ({ s with pins := { s.pins with resetN := true } } : State).resetPort.TotalsInRange := h.beside
    have ended := port.feederWork (.resetTransfer _)
    have sampled := (ended.feederWork (.ite (.foldl .deactivate upperChannels _) (.refl _))).beside
      (t := State.sampleStraps _ x)
    exact sampled.feederWork ((FeederWork.rederiveRest _ _).trans (.scan _))

omit h in
theorem cold (x : Straps) (pins : Pins) : (State.cold x pins).TotalsInRange := by
  have started : (⟨400, 400, 30⟩ : Params).InRange := by constructor <;> decide
  refine State.totalsInRange_iff.mpr ⟨fun ch => ?_, fun a r found => ?_, started⟩
  · rw [State.feeder, State.cold]
    simpa using Feeder.InRange.cold
  · by_cases e : a = 0
    · subst e
      simp [State.account?, State.cold] at found
      rw [← found]
      exact .fresh _ _ _
    · have apart : a.val ≠ 0 := fun same => e (Fin.ext same)
      simp [State.account?, State.cold, Vector.getElem_set_ne _ _ (Ne.symm apart)] at found

/-- A millisecond reaches no figure of a feeder, an account or the parameters (R167). -/
theorem tick : s.tick.TotalsInRange := by
  refine h.records (fun ch => ?_) (h.accounts.beside (QuietWork.tick s).accounts) (by rw [State.tick_eq]; rfl)
  rw [State.feeder_tick, State.tickedFeeder]
  split
  · exact { h.feeders ch with }
  · exact h.feeders ch

/-- Every row but the raw frame. -/
theorem row : ∀ c : Instr, plainRow c = false → (∀ f, c ≠ .unknownCommand f) → exec c s = .next t →
    t.TotalsInRange
  | .restart, _, _, next => h.restart next
  | .setClock _, _, _, next => h.setClock next
  | .reportRun _ _, _, _, next => h.reportRun next
  | .bindSide _ _ _, _, _, next => h.bindSide next
  | .assignFeederAccount _ _, _, _, next => h.assignFeederAccount next
  | .setFeederParameters _ _ _, _, _, next => h.setFeederParameters next
  | .openFeeder _, _, _, next => h.openFeeder next
  | .reconcileFeeder _, _, _, next => h.reconcileFeeder next
  | .enqueueOrder _ _ _ _, _, _, next => h.enqueueOrder next
  | .cancelOrder _, _, _, next => h.cancelOrder next
  | .setTransferParameters _ _ _, _, _, next => h.setTransferParameters next
  | .energyPulse _, _, _, next => h.energyPulse next
  | .feedbackChange _ _ _, _, _, next => h.feedbackChange next
  | .disagreementTimerExpiry ch _, _, _, next => ofNext (h.feederWork (.ite (.faultFeeder s ch _) (.refl s))) next
  | .openCheckDeadline ch, _, _, next => ofNext (h.feederWork (.ite (.ite (.passOpenCheck s ch)
      (.faultFeeder s ch _)) (.refl s))) next
  | .intervalExpiry _, _, _, next => h.intervalExpiry next
  | .openTimeout, _, _, next => h.feederWork (DeadlineWork.openTimeout next).feederWork
  | .deadTimeExpiry, _, _, next => h.feederWork (DeadlineWork.deadTimeExpiry next).feederWork
  | .closeTimeout, _, _, next => h.feederWork (DeadlineWork.closeTimeout next).feederWork
  | .releaseDeadline, _, _, next => h.feederWork (DeadlineWork.releaseDeadline next).feederWork
  | .fallbackTimeout, _, _, next => h.feederWork (DeadlineWork.fallbackTimeout next).feederWork
  | .siteSecondAdvance, _, _, next => h.siteSecondAdvance next
  | .supplyOkFall, _, _, next => ofNext (by split; exacts [h.beside, h]) next
  | .supplyOkRise, _, _, next => ofNext (by split; exacts [h, h.beside]) next
  | .resumeTimerExpiry, _, _, next => h.resumeTimerExpiry next
  | .resetNFall, _, _, next => ofNext (by split; exacts [h.beside, h]) next
  | .resetNRise _, _, _, next => h.resetNRise next
  | .coldStart x pins, _, _, next => ofNext ((cold x pins).beside) next
  | .unknownCommand f, _, raw, _ => absurd rfl (raw f)

omit h in
theorem stepLeads : StepLeads State.TotalsInRange State.TotalsInRange where
  waits _ _ _ _ h := h.beside
  port _ _ _ h := h.beside
  rows c s t raw h next := by
    cases plain : plainRow c with
    | true => exact h.plain (exec_plain c plain next)
    | false => exact h.row c plain raw next
  tick _ h := h.tick

end State.TotalsInRange

end Sys2Proof.Machine
end

section
/-! The port, the mode and the clock (R168, R172, R173, R175): every row and every step. -/

namespace Sys2Proof.Machine

/-- The port is open only while RESET_N is high (R175). -/
theorem State.resetN_of_portOpen {s : State} (opened : s.portOpen = true) : s.pins.resetN = true :=
  (Bool.and_eq_true_iff.mp opened).2

namespace State.PortAndClock

variable {s t : State}

theorem ofNext {u : State} (h : u.PortAndClock)
    (next : (Host.Outcome.next u : Host.Outcome State Fault Refusal) = .next t) : t.PortAndClock := by
  cases next
  exact h

/-- A clock set to a minute, or advanced, that is VALID (R168 to R170). -/
theorem withClock (h : s.PortAndClock) {c : Clock} (minute : c.minute ≤ 1048575) (second : c.second ≤ 59)
    (valid : c.valid = true) : ({ s with clock := c } : State).PortAndClock where
  modes := h.modes
  snapshots := h.snapshots
  held := h.held
  minute := minute
  second := second
  invalid no := absurd valid (by rw [show c.valid = false from no]; nofun)

theorem cold (x : Straps) (pins : Pins) : (State.cold x pins).PortAndClock where
  modes := by
    rw [State.cold]
    cases pins.supplyOk <;> simp
  snapshots _ := rfl
  held _ := rfl
  minute := Nat.zero_le _
  second := Nat.zero_le _
  invalid _ := ⟨rfl, rfl⟩

/-- A served command keeps port and clock if its rule does while the port is open. -/
theorem serve (h : s.PortAndClock) {body : Except Status Reply}
    (leads : s.portOpen = true → Leads State.PortAndClock body) (next : Machine.serve s body = .next t) :
    t.PortAndClock := by
  cases opened : s.portOpen with
  | false =>
    rw [serve_closed body opened] at next
    exact ofNext (h.keep .beside) next
  | true => exact Leads.serve (fun _ _ _ h => h.keep .beside) h (leads opened) next

/-- Work on the feeders, the queue and the sequencer in an open port. -/
theorem worked (h : s.PortAndClock) (opened : s.portOpen = true) (work : FeederWork s t) : t.PortAndClock :=
  h.keep (.feederWork work (State.resetN_of_portOpen opened))

variable (h : s.PortAndClock)
include h

/-! ## Commands -/

/-- The port's reset values hold no flag and no snapshot (R176). -/
theorem resetPort : s.resetPort.PortAndClock :=
  h.keep ⟨rfl, fun _ _ => rfl, fun _ _ => rfl⟩

theorem restart (next : execRestart s = .next t) : t.PortAndClock := by
  refine ofNext ?_ next
  split
  · rename_i opened
    have reset := h.resetPort.worked opened ((FeederWork.resetTransfer _).trans <|
      (FeederWork.rederiveRest _ (s.transfer.map (·.feeder))).trans (.scan _))
    exact reset.keep .beside
  · exact h.keep .beside

theorem setClock {minute : BitVec 24} (next : execSetClock minute s = .next t) : t.PortAndClock := by
  refine h.serve (fun _ => .bind fun _ valid => .ok ?_) next
  have set := h.withClock (c := ⟨true, minute.toNat, 0, 0⟩) (of_decide_eq_true (require_eq_ok valid))
    (Nat.zero_le _) rfl
  exact set.keep (.after ((KeepsPort.expireOrders _).trans (.scan _)) .beside)

theorem reportRun {slot report : Byte} (next : execReportRun slot report s = .next t) : t.PortAndClock := by
  refine h.serve (fun _ => .bind fun i _ => .bind fun _ _ => .bind fun r _ => .bind fun _ _ =>
    .ite (fun _ => .ok ?_) fun _ => .ok ?_) next
  · exact h.keep (.after (.scan _) .beside)
  · have partly : KeepsPort s (s.partialEvaluation i (r.timer / 1000)).1 := by
      unfold State.partialEvaluation
      split
      · exact .refl s
      · exact .evaluate s i _
    exact h.keep (partly.trans (.after (.scan _) .beside))

theorem bindSide {channel side slot : Byte} (next : execBindSide channel side slot s = .next t) :
    t.PortAndClock := by
  refine h.serve (fun _ => .bind fun _ _ => .bind fun _ _ => .bind fun _ _ => .bind fun _ _ => .bind fun _ _ =>
    .bind fun _ _ => .bind fun _ _ => .bind fun _ _ => .ok (h.keep .beside)) next

theorem assignFeederAccount {channel account : Byte} (next : execAssignFeederAccount channel account s = .next t) :
    t.PortAndClock := by
  refine h.serve (fun _ => .bind fun ch _ => .bind fun _ _ => .bind fun _ _ => .bind fun _ _ => .ok ?_) next
  exact h.keep ((KeepsPort.flush s ch).trans .beside)

theorem setFeederParameters {channel weight deadTime : Byte}
    (next : execSetFeederParameters channel weight deadTime s = .next t) : t.PortAndClock :=
  h.serve (fun _ => .bind fun _ _ => .bind fun _ _ => .bind fun _ _ => .ok (h.keep .beside)) next

theorem openFeeder {channel : Byte} (next : execOpenFeeder channel s = .next t) : t.PortAndClock := by
  refine h.serve (fun opened => .bind fun ch _ => .ok ?_) next
  split
  · exact h
  · exact h.worked opened ((FeederWork.openByCommand s ch).trans (.scan _))
  · exact h.worked opened (.openByCommand s ch)

theorem reconcileFeeder {channel : Byte} (next : execReconcileFeeder channel s = .next t) : t.PortAndClock :=
  h.serve (fun _ => .bind fun _ _ => .ite (fun _ => .ok (h.keep (.after (.scan _) .beside))) fun _ => .ok h) next

theorem enqueueOrder {channel side : Byte} {startMin endMin : BitVec 24}
    (next : execEnqueueOrder channel side startMin endMin s = .next t) : t.PortAndClock := by
  refine h.serve (fun _ => .bind fun _ _ => .bind fun _ _ => .bind fun _ _ => .bind fun _ _ => .bind fun _ _ =>
    .bind fun _ _ => .bind fun _ _ => .bind fun _ _ => .bind fun _ _ => .bind fun _ _ => .bind fun _ _ => .ok ?_) next
  exact h.keep (.after (.scan _) .beside)

theorem cancelOrder {channel : Byte} (next : execCancelOrder channel s = .next t) : t.PortAndClock := by
  refine h.serve (fun opened => .bind fun ch _ => .bind fun _ _ => ?_) next
  split
  · exact .error _
  · exact .ok (h.worked opened (.removeOrder s ch _ _))

/-! ## Events -/

theorem energyPulse {ch : Channel} (next : execEnergyPulse ch s = .next t) : t.PortAndClock :=
  ofNext (h.keep (.ite (.after (.billEnergy _ _ _) .beside) (.refl s))) next

theorem feedbackChange {ch : Channel} {d : Side} {level : Bool} (next : execFeedbackChange ch d level s = .next t) :
    t.PortAndClock :=
  ofNext (h.keep (.ite (.refl s) (.ite (.after (.feedbackSeen _ ch d) .beside) .beside))) next

theorem intervalExpiry {i : SetSlot} (next : execIntervalExpiry i s = .next t) : t.PortAndClock := by
  refine ofNext ?_ next
  split
  · exact h
  · split
    · exact h.keep ((KeepsPort.evaluate s i 60).trans (.after (.scan _) .beside))
    · exact h

/-- The minute advances below its last value (R168, R169). -/
theorem minuteAdvance (valid : s.clock.valid = true) (below : s.clock.minute < lastMinute) :
    s.minuteAdvance.PortAndClock := by
  have advanced := h.withClock (c := { s.clock with minute := s.clock.minute + 1 }) below h.second valid
  exact advanced.keep (.after ((KeepsPort.expireOrders _).trans (.scan _)) (.ite .beside (.refl _)))

theorem siteSecondAdvance (next : execSiteSecondAdvance s = .next t) : t.PortAndClock := by
  refine ofNext ?_ next
  split
  · rename_i due
    have valid : s.clock.valid = true := (Bool.and_eq_true_iff.mp due).1
    unfold State.secondAdvance
    split
    · rename_i short
      exact h.withClock h.minute (Nat.succ_le_of_lt short) valid
    · have carried := h.withClock (c := { s.clock with second := 0, millis := 0 }) h.minute (Nat.zero_le _) valid
      dsimp only
      split
      · rename_i below
        exact carried.minuteAdvance valid below
      · exact carried
  · exact h

/-- HOLDOVER closes the port, and the frame in progress is abandoned (R172, R173). -/
theorem supplyOkFall (next : execSupplyOkFall s = .next t) : t.PortAndClock := by
  refine ofNext ?_ next
  split
  · exact { h with modes := by simp, snapshots := fun _ => rfl }
  · exact h

/-- RESUMING is a mode with a closed port that begins in HOLDOVER (R172). -/
theorem supplyOkRise (next : execSupplyOkRise s = .next t) : t.PortAndClock := by
  refine ofNext ?_ next
  split
  · exact h
  · rename_i low
    have closed : s.portOpen = false := by
      rw [State.portOpen, h.modes.mpr (by simpa using low)]
      rfl
    exact { h with modes := by simp, snapshots := fun _ => h.snapshots closed }

theorem resumeTimerExpiry (next : execResumeTimerExpiry s = .next t) : t.PortAndClock := by
  refine ofNext ?_ next
  split
  · rename_i due
    obtain ⟨ms, resuming, _⟩ := (State.resumeDue_iff s).mp due
    have closed : s.portOpen = false := by rw [State.portOpen, resuming]; rfl
    have high : s.pins.supplyOk ≠ false := fun low => by
      rw [h.modes.mpr low] at resuming
      cases resuming
    have active : ({ s with mode := .active } : State).PortAndClock :=
      { h with modes := by simp [high], snapshots := fun _ => h.snapshots closed }
    exact active.keep ((KeepsPort.raise _ _).trans (.scan _))
  · exact h

/-- RESET_N low clears the flags and abandons the frame in progress (R175). -/
theorem resetNFall (next : execResetNFall s = .next t) : t.PortAndClock := by
  refine ofNext ?_ next
  split
  · exact { h with snapshots := fun _ => rfl, held := fun _ => rfl }
  · exact h

theorem resetNRise {x : Straps} (next : execResetNRise x s = .next t) : t.PortAndClock := by
  refine ofNext ?_ next
  split
  · exact h
  · have raised : ({ s with pins := { s.pins with resetN := true } } : State).resetPort.PortAndClock :=
      { h with snapshots := fun _ => rfl, held := fun _ => rfl }
    have ended := KeepsPort.feederWork (.resetTransfer
      ({ s with pins := { s.pins with resetN := true } } : State).resetPort) rfl
    have sampled := ended.trans (.after (.beside (t := State.sampleStraps _ x))
      (.feederWork (.ite (.foldl .deactivate upperChannels _) (.refl _)) ended.resetN))
    exact raised.keep (sampled.trans (.feederWork ((FeederWork.rederiveRest _ _).trans (.scan _)) sampled.resetN))

/-- A millisecond moves neither the minute nor the second, and the mode to no other (R167). -/
theorem tick : s.tick.PortAndClock := by
  have mode (m : SupplyMode) : (m.tick = .holdover ↔ m = .holdover) ∧ (m.tick = .active ↔ m = .active) := by
    cases m <;> simp [SupplyMode.tick]
  have frame := s.tick_eq
  generalize s.tick.feeders = F at frame
  rw [frame]
  exact
    { modes := (mode s.mode).1.trans h.modes
      snapshots := fun closed => h.snapshots (by
        rw [← closed, State.portOpen, State.portOpen, Bool.eq_iff_iff, Bool.and_eq_true, Bool.and_eq_true, beq_iff_eq,
          beq_iff_eq]
        exact and_congr_left' (mode s.mode).2.symm)
      held := h.held
      minute := h.minute
      second := h.second
      invalid := h.invalid }

/-! ## Every row and every step -/

/-- Every row but the raw frame. -/
theorem row : ∀ c : Instr, plainRow c = false → (∀ f, c ≠ .unknownCommand f) → exec c s = .next t →
    t.PortAndClock
  | .restart, _, _, next => h.restart next
  | .setClock _, _, _, next => h.setClock next
  | .reportRun _ _, _, _, next => h.reportRun next
  | .bindSide _ _ _, _, _, next => h.bindSide next
  | .assignFeederAccount _ _, _, _, next => h.assignFeederAccount next
  | .setFeederParameters _ _ _, _, _, next => h.setFeederParameters next
  | .openFeeder _, _, _, next => h.openFeeder next
  | .reconcileFeeder _, _, _, next => h.reconcileFeeder next
  | .enqueueOrder _ _ _ _, _, _, next => h.enqueueOrder next
  | .cancelOrder _, _, _, next => h.cancelOrder next
  | .setTransferParameters _ _ _, _, _, next => h.serve (fun _ => .ok (h.keep .beside)) next
  | .energyPulse _, _, _, next => h.energyPulse next
  | .feedbackChange _ _ _, _, _, next => h.feedbackChange next
  | .disagreementTimerExpiry ch _, _, _, next => ofNext (h.keep (.ite (.faultFeeder s ch _) (.refl s))) next
  | .openCheckDeadline ch, _, _, next => ofNext (h.keep (.ite (.ite (.passOpenCheck s ch)
      (.faultFeeder s ch _)) (.refl s))) next
  | .intervalExpiry _, _, _, next => h.intervalExpiry next
  | .openTimeout, _, _, next => h.keep (DeadlineWork.openTimeout next).keepsPort
  | .deadTimeExpiry, _, _, next => h.keep (DeadlineWork.deadTimeExpiry next).keepsPort
  | .closeTimeout, _, _, next => h.keep (DeadlineWork.closeTimeout next).keepsPort
  | .releaseDeadline, _, _, next => h.keep (DeadlineWork.releaseDeadline next).keepsPort
  | .fallbackTimeout, _, _, next => h.keep (DeadlineWork.fallbackTimeout next).keepsPort
  | .siteSecondAdvance, _, _, next => h.siteSecondAdvance next
  | .supplyOkFall, _, _, next => h.supplyOkFall next
  | .supplyOkRise, _, _, next => h.supplyOkRise next
  | .resumeTimerExpiry, _, _, next => h.resumeTimerExpiry next
  | .resetNFall, _, _, next => h.resetNFall next
  | .resetNRise _, _, _, next => h.resetNRise next
  | .coldStart x pins, _, _, next => ofNext ((cold x pins).keep .beside) next
  | .unknownCommand f, _, raw, _ => absurd rfl (raw f)

theorem everyRow {c : Instr} (raw : ∀ f, c ≠ .unknownCommand f) (next : Machine.exec c s = .next t) :
    t.PortAndClock := by
  cases plain : plainRow c with
  | true => exact h.keep (exec_plain c plain next).port
  | false => exact h.row c plain raw next

omit h in
/-- In an open port a snapshot may stand or not, and a raw frame is judged (R173, R181). -/
theorem openStepLeads : StepLeads (fun s => s.portOpen = true ∧ s.PortAndClock) State.PortAndClock where
  waits _ _ _ _ := fun ⟨opened, h⟩ =>
    ⟨opened, { h with snapshots := fun closed => absurd (opened.symm.trans closed) nofun }⟩
  port _ _ _ := fun ⟨_, h⟩ => h.keep .beside
  rows _ _ _ raw := fun ⟨_, h⟩ next => h.everyRow raw next
  tick _ := fun ⟨_, h⟩ => h.tick

theorem exec {c : Instr} (next : Machine.exec c s = .next t) : t.PortAndClock := by
  cases opened : s.portOpen with
  | true => exact openStepLeads.exec ⟨opened, h⟩ next
  | false =>
    by_cases raw : ∃ f, c = .unknownCommand f
    · obtain ⟨f, rfl⟩ := raw
      have notTaken : execUnknownCommand f s = .next s.notTaken := if_neg (by rw [opened]; nofun)
      exact ofNext (h.keep .beside) (notTaken.symm.trans next)
    · exact h.everyRow (fun f e => raw ⟨f, e⟩) next

theorem step (next : Machine.step s = .next t) : t.PortAndClock := by
  unfold Machine.step at next
  split at next
  · exact State.PortAndClock.exec (h.keep .beside) next
  · split at next
    · rename_i c u due
      rw [StepLeads.dueChoice_state due] at next
      exact State.PortAndClock.exec (h.keep .beside) next
    · exact ofNext h.tick next

end State.PortAndClock

/-- Settles O59: by the rows that are plain, the others one by one, and the millisecond. -/
theorem everyStepKeepsTotalsPortAndClock : Obligations.EveryStepKeepsTotalsPortAndClock :=
  ⟨fun _ _ totals next => State.TotalsInRange.stepLeads.step totals next, fun _ _ port next => port.step next⟩

end Sys2Proof.Machine
end

section
/-! The agreement of contactors, feeder states, transfer and queue, channel by channel (R47, R49, R59, R83 to R85,
R104): what it asks of one feeder at rest, of one feeder in a transfer and of the queue, and the work that keeps it
because it writes nothing the agreement reads. -/

namespace Sys2Proof.Machine

/-! ## One feeder -/

/-- The drives of a feeder's state outside a transfer (R47). -/
def FeederState.drives : FeederState → PerSide Bool
  | .on d => onlyClosed d
  | _ => ⟨false, false⟩

/-- A feeder outside a transfer agrees with itself. -/
structure Feeder.AtRest (f : Feeder) : Prop where
  state : f.state ≠ .transfer
  drive : f.drive = f.state.drives
  cause : f.cause = .none ↔ f.state ≠ .fault
  check : f.openCheck.isSome = true → f.state = .dark
  bound : ∀ d, f.state = .on d → (f.bound.get d).isSome = true

/-- A feeder is the one a transfer is in hand for, whatever the phase. -/
structure Transfer.Runs (x : Transfer) (f : Feeder) : Prop where
  state : f.state = .transfer
  cause : f.cause = .none
  check : f.openCheck = none
  sides : x.fromSide = none ∨ x.fromSide = some x.target.other
  target : (f.bound.get x.target).isSome = true
  old : ∀ d ∈ x.fromSide, (f.bound.get d).isSome = true

/-- A transfer and its feeder agree: the drives are those of the phase (R107 to R112). -/
structure Transfer.Holds (x : Transfer) (f : Feeder) : Prop where
  runs : x.Runs f
  drive : f.drive = x.drives
  fromDark : x.fromSide = none → x.phase = .closing
  releasing : x.releasing = true → x.phase = .closing ∧ x.fromSide = none

/-- A feeder may have an order for a side: it is active, DARK or ON the other side, and the side is bound (R83,
R85). -/
structure State.MayOrder (s : State) (ch : Channel) (d : Side) : Prop where
  active : s.active ch = true
  state : (s.feeder ch).state = .dark ∨ (s.feeder ch).state = .on d.other
  bound : (s.boundSet ch d).isSome = true

/-- One channel agrees with the transfer in hand, the straps and the queue. -/
structure State.OwnWired (s : State) (ch : Channel) : Prop where
  rest : s.heldChannel ≠ some ch → (s.feeder ch).AtRest
  held : ∀ x, s.transfer = some x → x.feeder = ch → x.Holds (s.feeder ch)
  inactive : s.active ch = false → (s.feeder ch).state = .dark
  orders : ∀ o ∈ s.queue, o.feeder = ch → s.MayOrder ch o.target

/-- A queue holds at most one order for a feeder, in the order of start minutes, and at most 8 (R83, R84). -/
structure QueueSound (q : List Order) : Prop where
  oneOrder : (q.map (·.feeder)).Nodup
  inOrder : q.Pairwise fun p r => p.startMin ≤ r.startMin
  atMostEight : q.length ≤ 8

theorem State.heldChannel_eq_some {s : State} {ch : Channel} :
    s.heldChannel = some ch ↔ ∃ x, s.transfer = some x ∧ x.feeder = ch := Option.map_eq_some_iff

theorem Feeder.AtRest.drivesOf {s : State} {ch : Channel} (h : (s.feeder ch).AtRest) :
    (s.feeder ch).drive = s.drivesOf ch := by
  rw [h.drive, State.drivesOf]
  cases state : (s.feeder ch).state with
  | transfer => exact absurd state h.state
  | _ => rfl

theorem Transfer.Holds.drivesOf {s : State} {x : Transfer} (held : s.transfer = some x)
    (h : x.Holds (s.feeder x.feeder)) : (s.feeder x.feeder).drive = s.drivesOf x.feeder := by
  rw [h.drive, State.drivesOf, h.runs.state, held]

/-- The agreement, channel by channel. -/
theorem State.wired_iff {s : State} : s.Wired ↔ (∀ ch, s.OwnWired ch) ∧ QueueSound s.queue := by
  constructor
  · intro w
    refine ⟨fun ch => ⟨fun apart => ?rest, fun x held own => ?held, w.inactive ch, fun o ho own => ?orders⟩,
      w.oneOrder, w.inOrder, w.atMostEight⟩
    case rest =>
      have state : (s.feeder ch).state ≠ .transfer := fun state => apart ((w.holds ch).mp state)
      refine ⟨state, ?_, w.causes ch, w.openChecks ch, w.closedBound ch⟩
      rw [w.drives ch, State.drivesOf]
      cases e : (s.feeder ch).state with
      | transfer => exact absurd e state
      | _ => rfl
    case held =>
      subst own
      have state := w.held_state held
      obtain ⟨sides, fromDark, releasing⟩ := w.transfers x held
      obtain ⟨target, old⟩ := w.transferBound x held
      refine ⟨⟨state, (w.causes _).mpr (by rw [state]; nofun), ?_, sides, target, old⟩, ?_, fromDark, releasing⟩
      · refine Option.not_isSome_iff_eq_none.mp fun runs => ?_
        rw [w.openChecks _ runs] at state
        cases state
      · rw [w.drives, State.drivesOf, state, held]
    case orders =>
      subst own
      exact ⟨(w.orders o ho).1, (w.orders o ho).2, w.targetBound o ho⟩
  · rintro ⟨own, queue⟩
    have either (ch : Channel) : (∃ x, s.transfer = some x ∧ x.feeder = ch ∧ x.Holds (s.feeder ch))
        ∨ s.heldChannel ≠ some ch ∧ (s.feeder ch).AtRest := by
      by_cases held : s.heldChannel = some ch
      · obtain ⟨x, inHand, e⟩ := State.heldChannel_eq_some.mp held
        exact .inl ⟨x, inHand, e, (own ch).held x inHand e⟩
      · exact .inr ⟨held, (own ch).rest held⟩
    have ofHeld (x : Transfer) (held : s.transfer = some x) := (own x.feeder).held x held rfl
    refine ⟨fun ch => ?drives, fun ch => ?holds, fun ch => ?causes, fun x held => ?transfers, fun o ho => ?orders,
      queue.oneOrder, queue.inOrder, queue.atMostEight, fun ch check => ?openChecks, fun ch => (own ch).inactive,
      fun ch d closed => ?closedBound, fun o ho => ((own _).orders o ho rfl).bound, fun x held => ?transferBound⟩
    case drives =>
      rcases either ch with ⟨x, inHand, rfl, holds⟩ | ⟨_, rest⟩
      · exact holds.drivesOf inHand
      · exact rest.drivesOf
    case holds =>
      rcases either ch with ⟨x, inHand, rfl, holds⟩ | ⟨apart, rest⟩
      · exact iff_of_true holds.runs.state (by rw [inHand]; rfl)
      · exact iff_of_false rest.state apart
    case causes =>
      rcases either ch with ⟨x, _, rfl, holds⟩ | ⟨_, rest⟩
      · exact iff_of_true holds.runs.cause (by rw [holds.runs.state]; nofun)
      · exact rest.cause
    case transfers =>
      have holds := ofHeld x held
      exact ⟨holds.runs.sides, holds.fromDark, holds.releasing⟩
    case orders =>
      have may := (own _).orders o ho rfl
      exact ⟨may.active, may.state⟩
    case openChecks =>
      rcases either ch with ⟨x, _, rfl, holds⟩ | ⟨_, rest⟩
      · rw [holds.runs.check] at check; cases check
      · exact rest.check check
    case closedBound =>
      rcases either ch with ⟨x, _, rfl, holds⟩ | ⟨_, rest⟩
      · rw [holds.runs.state] at closed; cases closed
      · exact rest.bound d closed
    case transferBound =>
      have holds := ofHeld x held
      exact ⟨holds.runs.target, holds.runs.old⟩

section Wired

variable {s : State} (w : s.Wired)
include w

theorem State.Wired.own (ch : Channel) : s.OwnWired ch := (State.wired_iff.mp w).1 ch

theorem State.Wired.queueSound : QueueSound s.queue := (State.wired_iff.mp w).2

theorem State.Wired.atRest {ch : Channel} (apart : (s.feeder ch).state ≠ .transfer) : (s.feeder ch).AtRest :=
  (w.own ch).rest fun held => apart ((w.holds ch).mpr held)

theorem State.Wired.holdsFor {x : Transfer} (held : s.transfer = some x) : x.Holds (s.feeder x.feeder) :=
  (w.own x.feeder).held x held rfl

end Wired

/-! ## What the agreement reads -/

/-- The part of a feeder's record that the agreement reads: whether its open check runs, not how long. -/
def Feeder.wiring (f : Feeder) : Feeder :=
  { Feeder.cold with
    state := f.state, cause := f.cause, drive := f.drive, bound := f.bound, openCheck := f.openCheck.map fun _ => 0 }

/-- The part of a transfer that the agreement reads. -/
def Transfer.wiring (x : Transfer) : Transfer := { x with deadTime := 0, fallback := none, deadline := 0, elapsed := 0 }

/-- The part of an order that the agreement reads. -/
def Order.wiring (o : Order) : Order := { o with endMin := 0, origin := .operator, wait := .notDue }

theorem Feeder.wiring_eq_iff {f g : Feeder} : g.wiring = f.wiring ↔ g.state = f.state ∧ g.cause = f.cause
    ∧ g.drive = f.drive ∧ g.bound = f.bound ∧ g.openCheck.isSome = f.openCheck.isSome := by
  have check : (g.openCheck.map fun _ => 0) = (f.openCheck.map fun _ => 0)
      ↔ g.openCheck.isSome = f.openCheck.isSome := by
    cases g.openCheck <;> cases f.openCheck <;> simp
  rw [← check]
  simp only [Feeder.wiring, Feeder.mk.injEq]
  tauto

theorem Transfer.wiring_eq_iff {x y : Transfer} : y.wiring = x.wiring ↔ y.feeder = x.feeder
    ∧ y.fromSide = x.fromSide ∧ y.target = x.target ∧ y.phase = x.phase ∧ y.releasing = x.releasing := by
  simp [Transfer.wiring]

theorem Order.wiring_eq_iff {o p : Order} : p.wiring = o.wiring ↔ p.feeder = o.feeder ∧ p.target = o.target
    ∧ p.startMin = o.startMin := by
  simp [Order.wiring]

theorem Feeder.AtRest.congr {f g : Feeder} (h : f.AtRest) (same : g.wiring = f.wiring) : g.AtRest := by
  obtain ⟨state, cause, drive, bound, check⟩ := Feeder.wiring_eq_iff.mp same
  refine ⟨?_, ?_, ?_, ?_, ?_⟩
  · rw [state]; exact h.state
  · rw [drive, state]; exact h.drive
  · rw [cause, state]; exact h.cause
  · rw [check, state]; exact h.check
  · rw [state, bound]; exact h.bound

theorem Transfer.Holds.congr {x y : Transfer} {f g : Feeder} (h : x.Holds f) (transfer : y.wiring = x.wiring)
    (feeder : g.wiring = f.wiring) : y.Holds g := by
  obtain ⟨state, cause, drive, bound, check⟩ := Feeder.wiring_eq_iff.mp feeder
  obtain ⟨_, old, target, phase, releasing⟩ := Transfer.wiring_eq_iff.mp transfer
  have drives : y.drives = x.drives := by rw [Transfer.drives, phase, old, releasing, target]; rfl
  obtain ⟨runs, driven, fromDark, release⟩ := h
  refine ⟨⟨state.trans runs.state, cause.trans runs.cause, ?_, ?_, ?_, ?_⟩, ?_, ?_, ?_⟩
  · rw [← Option.not_isSome_iff_eq_none, check, runs.check]; nofun
  · rw [old, target]; exact runs.sides
  · rw [bound, target]; exact runs.target
  · rw [old, bound]; exact runs.old
  · rw [drives, drive]; exact driven
  · rw [old, phase]; exact fromDark
  · rw [releasing, phase, old]; exact release

theorem QueueSound.sublist {q r : List Order} (h : QueueSound q)
    (kept : (r.map Order.wiring).Sublist (q.map Order.wiring)) : QueueSound r := by
  have keys (l : List Order) : l.map (·.feeder) = (l.map Order.wiring).map (·.feeder) := by
    rw [List.map_map]; rfl
  have rising (l : List Order) : (l.Pairwise fun p r => p.startMin ≤ r.startMin) ↔
      (l.map Order.wiring).Pairwise fun p r => p.startMin ≤ r.startMin :=
    (List.pairwise_map (f := Order.wiring) (R := fun p r : Order => p.startMin ≤ r.startMin)).symm
  refine ⟨?_, (rising r).mpr (((rising q).mp h.inOrder).sublist kept), ?_⟩
  · rw [keys]
    exact (keys q ▸ h.oneOrder).sublist (kept.map _)
  · have shorter := kept.length_le
    rw [List.length_map, List.length_map] at shorter
    exact shorter.trans h.atMostEight

/-- Between two states the straps stand, no order is added, and on the channels of a condition nothing the agreement
reads is written. -/
structure WiringKept (on : Channel → Prop) (s t : State) : Prop where
  straps : t.straps = s.straps
  queue : (t.queue.map Order.wiring).Sublist (s.queue.map Order.wiring)
  feeders : ∀ ch, on ch → (t.feeder ch).wiring = (s.feeder ch).wiring
  transfer : ∀ x : Transfer, on x.feeder →
    (t.transfer.map Transfer.wiring = some x ↔ s.transfer.map Transfer.wiring = some x)

/-- Nothing the agreement reads is written, beside orders that leave the queue. -/
abbrev SameWiring : State → State → Prop := WiringKept fun _ => True

/-- No channel but one has anything written that the agreement reads. -/
abbrev WiredApart (ch : Channel) : State → State → Prop := WiringKept fun c => c ≠ ch

namespace WiringKept

variable {on : Channel → Prop} {s t u : State}

theorem trans (a : WiringKept on s t) (b : WiringKept on t u) : WiringKept on s u where
  straps := b.straps.trans a.straps
  queue := b.queue.trans a.queue
  feeders ch h := (b.feeders ch h).trans (a.feeders ch h)
  transfer x h := (b.transfer x h).trans (a.transfer x h)

/-- `trans` with the later work first, from which the state between is read off. -/
theorem after (b : WiringKept on t u) (a : WiringKept on s t) : WiringKept on s u := a.trans b

/-- Work beside the feeders, the transfer, the queue and the straps. -/
theorem beside (feeders : t.feeders = s.feeders := by rfl) (transfer : t.transfer = s.transfer := by rfl)
    (queue : t.queue = s.queue := by rfl) (straps : t.straps = s.straps := by rfl) : WiringKept on s t where
  straps := straps
  queue := by rw [queue]
  feeders ch _ := by rw [State.feeder, feeders]; rfl
  transfer x _ := by rw [transfer]

theorem refl (s : State) : WiringKept on s s := .beside

theorem ite {c : Prop} [Decidable c] (a : WiringKept on s t) (b : WiringKept on s u) :
    WiringKept on s (if c then t else u) := by
  split
  · exact a
  · exact b

theorem foldl {α : Type} {f : State → α → State} (each : ∀ s a, WiringKept on s (f s a)) (l : List α)
    (s : State) : WiringKept on s (l.foldl f s) := by
  induction l generalizing s with
  | nil => exact refl s
  | cons a l ih => exact (each s a).trans (ih _)

/-- A write of a feeder's record beside what the agreement reads. -/
theorem putFeeder (s : State) (ch : Channel) {f : Feeder} (same : f.wiring = (s.feeder ch).wiring := by rfl) :
    WiringKept on s (s.putFeeder ch f) where
  straps := rfl
  queue := .refl _
  feeders c _ := by
    by_cases e : c = ch
    · subst e; rw [State.feeder_putFeeder_self, same]
    · rw [State.feeder_putFeeder_ne _ _ e]
  transfer _ _ := Iff.rfl

/-- Orders leave the queue. -/
theorem dequeue (s : State) {q : List Order} (kept : q.Sublist s.queue) : WiringKept on s { s with queue := q } :=
  { refl s with queue := kept.map _ }

theorem raise (s : State) (f : Flag) : WiringKept on s (s.raise f) := by
  rw [State.raise_eq]
  exact .beside

theorem raiseIf (s : State) (c : Bool) (f : Flag) : WiringKept on s (s.raiseIf c f) := ite (raise s f) (refl s)

theorem rewatch (s : State) (ch : Channel) (ms : Nat) : WiringKept on s (s.rewatch ch ms) := putFeeder s ch

theorem recordLast (s : State) (ch : Channel) (d : Side) (o : TransferOutcome) (r : Reason) :
    WiringKept on s (s.recordLast ch d o r) := putFeeder s ch

theorem flush (s : State) (ch : Channel) : WiringKept on s (s.flush ch) := by
  rcases s.flush_cases ch with h | ⟨i, _, _, h⟩
  · rw [h]; exact refl s
  · rw [h]
    have carried : WiringKept on s (s.updSet i (·.carry (s.feeder ch).account (s.feeder ch).interval)) := .beside
    exact carried.trans (putFeeder _ ch)

theorem removeOrder (s : State) (ch : Channel) (o : TransferOutcome) (r : Reason) :
    WiringKept on s (s.removeOrder ch o r) := by
  rcases s.removeOrder_cases ch o r with ⟨_, h⟩ | ⟨ord, _, h⟩
  · rw [h]; exact refl s
  · rw [h]
    exact after (recordLast _ _ _ _ _) (dequeue s List.filter_sublist)

theorem expireOrders (s : State) : WiringKept on s s.expireOrders :=
  after (foldl (f := State.expireOne) (fun _ _ => (recordLast _ _ _ _ _).trans (raise _ _)) _ _)
    (dequeue s List.filter_sublist)

theorem plain (work : PlainWork s t) : WiringKept on s t :=
  .beside (congrArg (·.1) work.wiring) (congrArg (·.2.1) work.wiring) (congrArg (·.2.2.1) work.wiring)
    (congrArg (·.2.2.2.1) work.wiring)

/-! ## What it carries over -/

theorem active (kept : WiringKept on s t) (ch : Channel) : t.active ch = s.active ch := by
  rw [State.active, kept.straps]
  rfl

theorem order (kept : WiringKept on s t) {o : Order} (ho : o ∈ t.queue) :
    ∃ p ∈ s.queue, p.feeder = o.feeder ∧ p.target = o.target := by
  obtain ⟨p, hp, same⟩ := List.mem_map.mp (kept.queue.subset (List.mem_map_of_mem ho))
  obtain ⟨feeder, target, _⟩ := Order.wiring_eq_iff.mp same
  exact ⟨p, hp, feeder, target⟩

theorem heldChannel (kept : WiringKept on s t) {ch : Channel} (h : on ch) :
    t.heldChannel = some ch ↔ s.heldChannel = some ch := by
  rw [State.heldChannel_eq_some, State.heldChannel_eq_some]
  constructor
  · rintro ⟨x, held, rfl⟩
    obtain ⟨y, held', same⟩ := Option.map_eq_some_iff.mp ((kept.transfer x.wiring h).mp (by rw [held]; rfl))
    exact ⟨y, held', (Transfer.wiring_eq_iff.mp same).1⟩
  · rintro ⟨x, held, rfl⟩
    obtain ⟨y, held', same⟩ := Option.map_eq_some_iff.mp ((kept.transfer x.wiring h).mpr (by rw [held]; rfl))
    exact ⟨y, held', (Transfer.wiring_eq_iff.mp same).1⟩

theorem ownWired (kept : WiringKept on s t) {ch : Channel} (h : on ch) (own : s.OwnWired ch) : t.OwnWired ch where
  rest apart := (own.rest (mt (kept.heldChannel h).mpr apart)).congr (kept.feeders ch h)
  held x held e := by
    subst e
    obtain ⟨y, held', same⟩ := Option.map_eq_some_iff.mp ((kept.transfer x.wiring h).mp (by rw [held]; rfl))
    exact (own.held y held' (Transfer.wiring_eq_iff.mp same).1).congr same.symm (kept.feeders _ h)
  inactive no := by
    obtain ⟨state, _⟩ := Feeder.wiring_eq_iff.mp (kept.feeders ch h)
    exact state.trans (own.inactive ((kept.active ch).symm.trans no))
  orders o ho e := by
    obtain ⟨p, hp, feeder, target⟩ := kept.order ho
    have may := own.orders p hp (feeder.trans e)
    obtain ⟨state, _, _, bound, _⟩ := Feeder.wiring_eq_iff.mp (kept.feeders ch h)
    exact ⟨(kept.active ch).trans may.active, by rw [state, ← target]; exact may.state,
      by rw [State.boundSet, bound, ← target]; exact may.bound⟩

end WiringKept

namespace State.Wired

variable {s t : State} (w : s.Wired)
include w

/-- Work beside what the agreement reads keeps it. -/
theorem same (kept : SameWiring s t) : t.Wired :=
  State.wired_iff.mpr ⟨fun ch => kept.ownWired trivial (w.own ch), w.queueSound.sublist kept.queue⟩

/-- Work on one channel keeps the agreement if that channel agrees in the end. -/
theorem rewired {ch : Channel} (kept : WiredApart ch s t) (own : t.OwnWired ch) : t.Wired :=
  State.wired_iff.mpr ⟨fun c => if e : c = ch then e ▸ own else kept.ownWired e (w.own c),
    w.queueSound.sublist kept.queue⟩

end State.Wired

end Sys2Proof.Machine
end

section
/-! The sequencer's phases and the scan keep the agreement (R98 to R114): each leaves its feeder at rest with no
transfer in hand, or in a transfer whose phase its drives follow. -/

namespace Sys2Proof.Machine

/-! ## Drives -/

theorem onlyClosed_opened (d : Side) : (onlyClosed d).set d false = ⟨false, false⟩ := by cases d <;> rfl

theorem open_set_closed (d : Side) : (⟨false, false⟩ : PerSide Bool).set d true = onlyClosed d := by
  cases d <;> rfl

theorem open_set_open (d : Side) : (⟨false, false⟩ : PerSide Bool).set d false = ⟨false, false⟩ := by
  cases d <;> rfl

/-! ## A transfer's feeder -/

namespace Transfer.Runs

variable {x : Transfer} {f : Feeder} (h : x.Runs f)
include h

/-- The phase and its times are no part of it. -/
theorem rephased {phase : Phase} {releasing : Bool} {fallback : Option FallbackReason} {deadline elapsed : Nat} :
    ({ x with phase := phase, releasing := releasing, fallback := fallback, deadline := deadline
              elapsed := elapsed } : Transfer).Runs f := { h with }

theorem driven (drive : PerSide Bool) : x.Runs { f with drive := drive } := { h with }

end Transfer.Runs

/-- The sequencer's work on a channel is done: the feeder is at rest and no transfer is in hand, or it is in the
transfer in hand. -/
def State.Sequenced (s : State) (ch : Channel) : Prop :=
  (s.transfer = none ∧ (s.feeder ch).AtRest) ∨ ∃ x, s.transfer = some x ∧ x.feeder = ch ∧ x.Holds (s.feeder ch)

theorem State.Sequenced.ownWired {s : State} {ch : Channel} (h : s.Sequenced ch) (active : s.active ch = true)
    (orders : ∀ o ∈ s.queue, o.feeder = ch → s.MayOrder ch o.target) : s.OwnWired ch := by
  have noInactive : s.active ch = false → (s.feeder ch).state = .dark := fun no => by
    rw [active] at no; cases no
  rcases h with ⟨idle, rest⟩ | ⟨x, held, own, holds⟩
  · exact ⟨fun _ => rest, fun y held _ => (by rw [idle] at held; cases held), noInactive, orders⟩
  · refine ⟨fun apart => absurd (State.heldChannel_eq_some.mpr ⟨x, held, own⟩) apart, fun y held' _ => ?_, noInactive,
      orders⟩
    cases held.symm.trans held'
    exact holds

/-- After work on a channel the transfer in hand, before or after, is the channel's own or there is none. -/
theorem WiredApart.ofOnChannel {s t : State} {ch : Channel} (on : OnChannel ch s t)
    (before : ∀ x, s.transfer = some x → x.feeder = ch) (after : ∀ x, t.transfer = some x → x.feeder = ch) :
    WiredApart ch s t where
  straps := on.straps
  queue := by rw [on.queue]
  feeders c h := by rw [on.others c h]
  transfer x other := by
    have none {u : State} (own : ∀ x, u.transfer = some x → x.feeder = ch) :
        u.transfer.map Transfer.wiring ≠ some x := fun held => by
      obtain ⟨y, inHand, rfl⟩ := Option.map_eq_some_iff.mp held
      exact other (own y inHand)
    exact iff_of_false (none after) (none before)

theorem State.Sequenced.own_transfer {s : State} {ch : Channel} (h : s.Sequenced ch) :
    ∀ x, s.transfer = some x → x.feeder = ch := fun y held => by
  rcases h with ⟨idle, _⟩ | ⟨x, held', own, _⟩
  · rw [idle] at held; cases held
  · cases held.symm.trans held'
    exact own

/-- The sequencer's work on a channel keeps the agreement. -/
theorem State.Wired.sequenced {s t : State} (w : s.Wired) {ch : Channel} (on : OnChannel ch s t)
    (before : ∀ x, s.transfer = some x → x.feeder = ch) (active : s.active ch = true)
    (alone : ∀ o ∈ s.queue, o.feeder ≠ ch) (done : t.Sequenced ch) : t.Wired := by
  refine w.rewired (WiredApart.ofOnChannel on before done.own_transfer) (done.ownWired ?_ fun o ho own => ?_)
  · rw [State.active, on.straps]; exact active
  · rw [on.queue] at ho
    exact absurd own (alone o ho)

/-! ## The phases -/

section Phases

variable {s : State} {x : Transfer} (runs : x.Runs (s.feeder x.feeder))
include runs

/-- The end of a transfer leaves its feeder at rest if its drives are those of the end state, or that is FAULT. -/
theorem State.endTransfer_sequenced {st : FeederState} {cause : FaultCause} (o : TransferOutcome) (r : Reason)
    (flags : List Flag) (apart : st ≠ .transfer) (caused : cause = .none ↔ st ≠ .fault)
    (drive : st = .fault ∨ (s.feeder x.feeder).drive = st.drives)
    (bound : ∀ d, st = .on d → ((s.feeder x.feeder).bound.get d).isSome = true) :
    (s.endTransfer x st cause o r flags).Sequenced x.feeder := by
  refine .inl ⟨s.transfer_endTransfer x st cause o r flags, ?_⟩
  rw [State.feeder_endTransfer_self]
  refine ⟨apart, ?_, caused, fun check => ?_, bound⟩
  · show (if st = .fault then ⟨false, false⟩ else (s.feeder x.feeder).drive) = st.drives
    split
    · rename_i fault; subst fault; rfl
    · exact drive.resolve_left ‹_›
  · have check : (s.feeder x.feeder).openCheck.isSome = true := check
    rw [runs.check] at check
    cases check

/-- A side of the transfer's feeder is driven. -/
theorem State.runs_driveSide (d : Side) (closed : Bool) :
    x.Runs ((s.driveSide x.feeder d closed).feeder x.feeder) := by
  rw [State.driveSide, State.feeder_putFeeder_self]
  exact runs.driven _

omit runs in
theorem State.drive_driveSide (s : State) (ch : Channel) (d : Side) (closed : Bool) :
    ((s.driveSide ch d closed).feeder ch).drive = (s.feeder ch).drive.set d closed := by
  rw [State.driveSide, State.feeder_putFeeder_self]

/-- A transfer whose target contact closes with its drive is DONE (R110, R111). -/
theorem State.endDone_sequenced (drive : (s.feeder x.feeder).drive = onlyClosed x.target) :
    (s.endDone x).Sequenced x.feeder :=
  State.endTransfer_sequenced runs _ _ _ nofun (iff_of_true rfl nofun) (.inr drive) fun d e => by
    cases e; exact runs.target

theorem State.endReleased_sequenced (drive : (s.feeder x.feeder).drive = ⟨false, false⟩) :
    (s.endReleased x).Sequenced x.feeder :=
  State.endTransfer_sequenced runs _ _ _ nofun (iff_of_true rfl nofun) (.inr drive) nofun

/-- A transfer ends on its old side (R108, R112). -/
theorem State.endBack_sequenced {d : Side} (old : x.fromSide = some d)
    (drive : (s.feeder x.feeder).drive = onlyClosed d) (o : TransferOutcome) (r : Reason) (flags : List Flag) :
    (s.endTransfer x (.on d) .none o r flags).Sequenced x.feeder :=
  State.endTransfer_sequenced runs _ _ _ nofun (iff_of_true rfl nofun) (.inr drive) fun e same => by
    cases same; exact runs.old d old

/-- A contact that is stuck makes the feeder FAULT (R111, R112). -/
theorem State.endStuck_sequenced (o : TransferOutcome) (r : Reason) (flags : List Flag) :
    (s.endTransfer x .fault .stuck o r flags).Sequenced x.feeder :=
  State.endTransfer_sequenced runs _ _ _ nofun (iff_of_false nofun fun no => no rfl) (.inl rfl) nofun

/-- OPENING, or DEAD at once, from the old side (R107). -/
theorem State.beginOpening_sequenced {d : Side} (old : x.fromSide = some d) (early : x.releasing = false)
    (drive : (s.feeder x.feeder).drive = onlyClosed d) : (s.beginOpening x d).Sequenced x.feeder := by
  have opened : ((s.driveSide x.feeder d false).feeder x.feeder).drive = ⟨false, false⟩ := by
    rw [State.drive_driveSide, drive, onlyClosed_opened]
  have running := State.runs_driveSide runs d false
  have fromOn {P : Prop} (none : x.fromSide = none) : P := by rw [old] at none; cases none
  have notYet {P : Prop} (late : x.releasing = true) : P := by rw [early] at late; cases late
  unfold State.beginOpening
  dsimp only
  split
  · exact .inr ⟨_, rfl, rfl, ⟨running.rephased, opened, fromOn, notYet⟩⟩
  · exact .inr ⟨_, rfl, rfl, ⟨running.rephased, opened, fromOn, notYet⟩⟩

/-- CLOSING, or DONE at once, with both drives open (R107, R110, R111). -/
theorem State.beginClosing_sequenced (drive : (s.feeder x.feeder).drive = ⟨false, false⟩) :
    (s.beginClosing x).Sequenced x.feeder := by
  have closed : ((s.driveSide x.feeder x.target true).feeder x.feeder).drive = onlyClosed x.target := by
    rw [State.drive_driveSide, drive, open_set_closed]
  have running := State.runs_driveSide runs x.target true
  unfold State.beginClosing
  dsimp only
  split
  · exact State.endDone_sequenced (x := { x with phase := .closing, releasing := false, deadline := _ })
      running.rephased closed
  · exact .inr ⟨_, rfl, rfl, ⟨running.rephased, closed, fun _ => rfl, nofun⟩⟩

/-- The releasing part of CLOSING from DARK, or its end at once (R111, R114). -/
theorem State.beginReleasing_sequenced (dark : x.fromSide = none) (phase : x.phase = .closing)
    (drive : (s.feeder x.feeder).drive = onlyClosed x.target) : (s.beginReleasing x).Sequenced x.feeder := by
  have opened : ((s.driveSide x.feeder x.target false).feeder x.feeder).drive = ⟨false, false⟩ := by
    rw [State.drive_driveSide, drive, onlyClosed_opened]
  have running := State.runs_driveSide runs x.target false
  unfold State.beginReleasing
  dsimp only
  split
  · refine .inr ⟨_, rfl, rfl, ⟨running.rephased, ?_, fun _ => phase, fun _ => ⟨phase, dark⟩⟩⟩
    rw [Transfer.drives]
    simp only [phase, if_true]
    exact opened
  · exact State.endReleased_sequenced (x := { x with releasing := true, deadline := _ }) running.rephased opened

/-- FALLBACK to the old side, or its end at once (R112). -/
theorem State.beginFallback_sequenced {d : Side} (old : x.fromSide = some d) (early : x.releasing = false)
    (drive : (s.feeder x.feeder).drive = ⟨false, false⟩ ∨ (s.feeder x.feeder).drive = onlyClosed x.target)
    (why : FallbackReason) : (s.beginFallback x d why).Sequenced x.feeder := by
  have back : (((s.driveSide x.feeder x.target false).driveSide x.feeder d true).feeder x.feeder).drive
      = onlyClosed d := by
    rw [State.drive_driveSide, State.drive_driveSide]
    rcases drive with e | e <;> rw [e]
    · rw [open_set_open, open_set_closed]
    · rw [onlyClosed_opened, open_set_closed]
  have running := State.runs_driveSide (State.runs_driveSide runs x.target false) d true
  unfold State.beginFallback
  dsimp only
  split
  · exact State.endBack_sequenced (x := { x with phase := .fallback, fallback := some why, deadline := _ })
      running.rephased old back _ _ _
  · refine .inr ⟨_, rfl, rfl, ⟨running.rephased, ?_, ?_, ?_⟩⟩
    · rw [Transfer.drives]
      simp only [old]
      exact back
    · intro dark; rw [show x.fromSide = none from dark] at old; cases old
    · intro late; rw [show x.releasing = true from late] at early; cases early

/-- The open timeout closes the old side again (R108). -/
theorem State.openTimedOut_sequenced {d : Side} (old : x.fromSide = some d)
    (drive : (s.feeder x.feeder).drive = ⟨false, false⟩) : (s.openTimedOut x d).Sequenced x.feeder := by
  refine State.endBack_sequenced (State.runs_driveSide runs d true) old ?_ _ _ _
  rw [State.drive_driveSide, drive, open_set_closed]

end Phases

/-! ## What a transfer in hand drives -/

namespace Transfer.Holds

variable {x : Transfer} {f : Feeder} (h : x.Holds f)
include h

theorem notReleasing (phase : x.phase ≠ .closing) : x.releasing = false :=
  Bool.eq_false_iff.mpr fun late => phase (h.releasing late).1

theorem drive_opening (phase : x.phase = .opening) : f.drive = ⟨false, false⟩ := by
  rw [h.drive, Transfer.drives, phase]

theorem drive_dead (phase : x.phase = .dead) : f.drive = ⟨false, false⟩ := by
  rw [h.drive, Transfer.drives, phase]

theorem drive_closing (phase : x.phase = .closing) :
    f.drive = if x.releasing then ⟨false, false⟩ else onlyClosed x.target := by
  rw [h.drive, Transfer.drives, phase]

theorem drive_fallback (phase : x.phase = .fallback) {d : Side} (old : x.fromSide = some d) :
    f.drive = onlyClosed d := by
  rw [h.drive, Transfer.drives, phase, old]

end Transfer.Holds

/-- The test of the phase's condition leaves the transfer, or ends it, or begins DEAD (R107 to R112). -/
theorem State.testPhase_sequenced {s : State} {x : Transfer} (held : s.transfer = some x)
    (holds : x.Holds (s.feeder x.feeder)) : (s.testPhase x).Sequenced x.feeder := by
  have stays : s.Sequenced x.feeder := .inr ⟨x, held, rfl, holds⟩
  have runs := holds.runs
  cases phase : x.phase with
  | opening =>
    cases old : x.fromSide with
    | none => simpa only [State.testPhase, phase, old] using stays
    | some d =>
      rw [State.testPhase_opening phase old]
      split
      · exact stays
      · refine .inr ⟨_, rfl, rfl, ⟨runs.rephased, holds.drive_opening phase, ?_, ?_⟩⟩
        · intro dark; rw [show x.fromSide = none from dark] at old; cases old
        · intro late
          have early := holds.notReleasing (by rw [phase]; nofun)
          rw [show x.releasing = true from late] at early
          cases early
  | dead => simpa only [State.testPhase, phase] using stays
  | closing =>
    have drive := holds.drive_closing phase
    cases releasing : x.releasing with
    | true =>
      rw [releasing] at drive
      rw [State.testPhase_releasing phase releasing]
      split
      · exact stays
      · exact State.endReleased_sequenced runs drive
    | false =>
      rw [releasing] at drive
      rw [State.testPhase_closing phase releasing]
      split
      · exact State.endDone_sequenced runs drive
      · exact stays
  | fallback =>
    cases old : x.fromSide with
    | none => simpa only [State.testPhase, phase, old] using stays
    | some d =>
      rw [State.testPhase_fallback phase old]
      split
      · exact State.endBack_sequenced runs old (holds.drive_fallback phase old) _ _ _
      · exact stays

/-! ## The take and the scan (R98, R105) -/

/-- A take from a side or from DARK towards a bound side leaves its feeder in a transfer, or at rest after it. -/
theorem State.take_sequenced {s : State} {ch : Channel} {d : Side} (rest : (s.feeder ch).AtRest)
    (may : s.MayOrder ch d) (check : (s.feeder ch).openCheck = none) : (s.take ch d).Sequenced ch := by
  have taken : ((s.flush ch).putFeeder ch { (s.flush ch).feeder ch with
      state := .transfer, cause := .none, watch := ⟨none, none⟩ }).feeder ch =
        { (s.flush ch).feeder ch with state := .transfer, cause := .none, watch := ⟨none, none⟩ } :=
    State.feeder_putFeeder_self _ _ _
  have bound : ((s.flush ch).feeder ch).bound = (s.feeder ch).bound := by rw [State.flush_feeder]
  have flushedCheck : ((s.flush ch).feeder ch).openCheck = (s.feeder ch).openCheck := by rw [State.flush_feeder]
  have flushedDrive : ((s.flush ch).feeder ch).drive = (s.feeder ch).drive := by rw [State.flush_feeder]
  have runs (x : Transfer) (target : x.target = d)
      (sides : x.fromSide = none ∨ x.fromSide = some d.other ∧ (s.feeder ch).state = .on d.other) :
      x.Runs { (s.flush ch).feeder ch with state := .transfer, cause := .none, watch := ⟨none, none⟩ } := by
    refine ⟨rfl, rfl, flushedCheck.trans check, ?_, ?_, fun e old => ?_⟩
    · rw [target]; exact sides.imp_right And.left
    · rw [target]; exact (congrArg (fun b => (b.get d).isSome) bound).trans may.bound
    · rcases sides with none | ⟨side, on⟩
      · rw [none] at old; cases old
      · rw [side] at old
        cases old
        exact (congrArg (fun b => (b.get d.other).isSome) bound).trans (rest.bound _ on)
  have drive := rest.drive
  rcases may.state with dark | on
  · rw [dark] at drive
    have idle : (s.feeder ch).closedSide = none := by rw [Feeder.closedSide, dark]
    unfold State.take
    simp only [Feeder.takenTransfer, idle]
    refine State.beginClosing_sequenced (x := ⟨ch, none, d, (s.feeder ch).deadTime, .opening, false, none, 0, 0⟩)
      ?_ ?_
    · rw [taken]; exact runs _ rfl (.inl rfl)
    · rw [taken]; exact flushedDrive.trans drive
  · rw [on] at drive
    have old : (s.feeder ch).closedSide = some d.other := Feeder.closedSide_eq_some.mpr on
    unfold State.take
    simp only [Feeder.takenTransfer, old]
    refine State.beginOpening_sequenced
      (x := ⟨ch, some d.other, d, (s.feeder ch).deadTime, .opening, false, none, 0, 0⟩) ?_ rfl rfl ?_
    · rw [taken]; exact runs _ rfl (.inr ⟨rfl, on⟩)
    · rw [taken]; exact flushedDrive.trans drive

theorem State.wiring_leftWaiting (s : State) (o : Order) : (s.leftWaiting o).wiring = o.wiring := by
  unfold State.leftWaiting
  split
  · rfl
  · split <;> rfl

theorem State.map_leftWaiting (s : State) (l : List Order) :
    (l.map s.leftWaiting).map Order.wiring = l.map Order.wiring := by
  rw [List.map_map]
  exact List.map_congr_left fun o _ => s.wiring_leftWaiting o

/-- The queue keeps its order for order, or loses some. -/
theorem State.Wired.requeued {s : State} (w : s.Wired) {q : List Order}
    (kept : (q.map Order.wiring).Sublist (s.queue.map Order.wiring)) : ({ s with queue := q } : State).Wired :=
  w.same { WiringKept.refl s with queue := kept }

/-- A scan keeps the agreement: the order it hands over is that of a feeder at rest (R98). -/
theorem State.Wired.scan {s : State} (w : s.Wired) : s.scan.Wired := by
  rcases s.scanPass_cases s.queue with ⟨_, none_handed⟩ | ⟨pre, o, post, queue, _, ready, handed⟩
  · have scanned : s.scan = { s with queue := s.queue.map s.leftWaiting } := by rw [State.scan, none_handed]
    rw [scanned]
    exact w.requeued (by rw [State.map_leftWaiting])
  · have scanned : s.scan = { s.take o.feeder o.target with
        queue := pre.map s.leftWaiting ++ post.map (s.take o.feeder o.target).leftWaiting } := by
      rw [State.scan, handed]
    have order : o ∈ s.queue := by rw [queue]; simp
    have may := (w.own o.feeder).orders o order rfl
    simp only [Bool.and_eq_true, State.canHandOver] at ready
    obtain ⟨_, ⟨⟨idle, _⟩, _⟩, check⟩ := ready
    have idle : s.transfer = none := Option.isNone_iff_eq_none.mp idle
    have done := State.take_sequenced ((w.own o.feeder).rest (by rw [State.heldChannel, idle]; nofun)) may
      (Option.isNone_iff_eq_none.mp check)
    have kept : ((pre.map s.leftWaiting ++ post.map (s.take o.feeder o.target).leftWaiting).map Order.wiring).Sublist
        (s.queue.map Order.wiring) := by
      rw [List.map_append, State.map_leftWaiting, State.map_leftWaiting, queue, List.map_append, List.map_cons]
      exact (List.Sublist.refl _).append (List.sublist_cons_self _ _)
    have left := w.requeued kept
    have on := OnChannel.take s o.feeder o.target
    have apart : ∀ p ∈ pre ++ post, p.feeder ≠ o.feeder := by
      have one := w.oneOrder
      rw [queue, List.map_append, List.map_cons, List.nodup_middle, ← List.map_append, List.nodup_cons] at one
      exact fun p hp same => one.1 (same ▸ List.mem_map_of_mem hp)
    have alone : ∀ p ∈ pre.map s.leftWaiting ++ post.map (s.take o.feeder o.target).leftWaiting,
        p.feeder ≠ o.feeder := fun p hp => by
      obtain ⟨q, hq, same⟩ : ∃ q ∈ pre ++ post, p.wiring = q.wiring := by
        rcases List.mem_append.mp hp with front | back
        · obtain ⟨q, hq, rfl⟩ := List.mem_map.mp front
          exact ⟨q, List.mem_append_left _ hq, State.wiring_leftWaiting _ q⟩
        · obtain ⟨q, hq, rfl⟩ := List.mem_map.mp back
          exact ⟨q, List.mem_append_right _ hq, State.wiring_leftWaiting _ q⟩
      rw [(Order.wiring_eq_iff.mp same).1]
      exact apart q hq
    rw [scanned]
    exact left.sequenced ⟨on.others, on.bound, rfl, on.straps⟩ (by intro x held; cases idle.symm.trans held) may.active alone
      done


end Sys2Proof.Machine
end

section
/-! An order placed in the queue, by command or for relief, keeps the agreement (R84, R86, R92, R93), and so does an
evaluation. -/

namespace Sys2Proof.Machine

/-! ## One order placed (R84) -/

theorem insertOrder_perm (o : Order) (q : List Order) : (insertOrder o q).Perm (o :: q) := by
  induction q with
  | nil => exact .refl _
  | cons p rest ih =>
    rw [insertOrder]
    split
    · exact (ih.cons p).trans (.swap _ _ _)
    · exact .refl _

theorem mem_insertOrder {o p : Order} {q : List Order} : p ∈ insertOrder o q ↔ p = o ∨ p ∈ q := by
  rw [(insertOrder_perm o q).mem_iff, List.mem_cons]

theorem insertOrder_inOrder {o : Order} {q : List Order} (h : q.Pairwise fun p r => p.startMin ≤ r.startMin) :
    (insertOrder o q).Pairwise fun p r => p.startMin ≤ r.startMin := by
  induction q with
  | nil => exact List.pairwise_singleton _ _
  | cons p rest ih =>
    obtain ⟨first, rising⟩ := List.pairwise_cons.mp h
    rw [insertOrder]
    split
    · rename_i before
      refine List.pairwise_cons.mpr ⟨fun r hr => ?_, ih rising⟩
      rcases mem_insertOrder.mp hr with rfl | later
      · exact before
      · exact first r later
    · rename_i behind
      have behind : o.startMin ≤ p.startMin := Nat.le_of_not_le behind
      refine List.pairwise_cons.mpr ⟨fun r hr => ?_, h⟩
      rcases List.mem_cons.mp hr with rfl | later
      · exact behind
      · exact behind.trans (first r later)

theorem QueueSound.insert {q : List Order} (h : QueueSound q) {o : Order} (fresh : ∀ p ∈ q, p.feeder ≠ o.feeder)
    (room : q.length < 8) : QueueSound (insertOrder o q) where
  oneOrder := by
    rw [((insertOrder_perm o q).map _).nodup_iff, List.map_cons, List.nodup_cons]
    refine ⟨fun taken => ?_, h.oneOrder⟩
    obtain ⟨p, hp, same⟩ := List.mem_map.mp taken
    exact fresh p hp same
  inOrder := insertOrder_inOrder h.inOrder
  atMostEight := by
    rw [(insertOrder_perm o q).length_eq]
    exact room

/-- The feeder has no order yet. -/
theorem State.orderFor_eq_none {s : State} {ch : Channel} : s.orderFor ch = none ↔ ∀ p ∈ s.queue, p.feeder ≠ ch := by
  rw [State.orderFor, List.find?_eq_none]
  simp

/-- A qualifying feeder may have its relief order (R92). -/
theorem State.mayOrder_relief {s : State} {i r : SetSlot} {ch : Channel} (qualifies : s.qualifies i r ch = true)
    (window : Nat) : s.MayOrder ch (s.reliefOrder ch window).target := by
  obtain ⟨active, bound⟩ := Bool.and_eq_true_iff.mp qualifies
  cases state : (s.feeder ch).state with
  | on d =>
    have target : (s.reliefOrder ch window).target = d.other := by rw [State.reliefOrder, state]
    simp only [state, Bool.and_eq_true, beq_iff_eq] at bound
    rw [target]
    refine ⟨active, .inr ?_, ?_⟩
    · rw [state]; cases d <;> rfl
    · rw [State.boundSet, bound.2]; rfl
  | _ => simp [state] at bound

namespace State.Wired

variable {s : State} (w : s.Wired)
include w

/-- An order for a feeder that may have one and has none, in a queue with room (R83 to R86). -/
theorem enqueued {o : Order} (may : s.MayOrder o.feeder o.target) (fresh : s.orderFor o.feeder = none)
    (room : s.queue.length < 8) : ({ s with queue := insertOrder o s.queue } : State).Wired := by
  refine State.wired_iff.mpr ⟨fun ch => ?_, w.queueSound.insert (State.orderFor_eq_none.mp fresh) room⟩
  have own := w.own ch
  refine ⟨own.rest, own.held, own.inactive, fun p hp same => ?_⟩
  have mayBefore : s.MayOrder ch p.target := by
    rcases mem_insertOrder.mp hp with rfl | old
    · exact same ▸ may
    · exact own.orders p old same
  exact ⟨mayBefore.active, mayBefore.state, mayBefore.bound⟩

/-! ## Relief (R92, R93) -/

omit w in
/-- Relief orders placed for feeders that may have one and have none. -/
theorem placeRelief (window : Nat) (l : List Channel) (distinct : l.Nodup) {s : State} (w : s.Wired)
    (wanting : ∀ ch ∈ l, s.orderFor ch = none ∧ s.MayOrder ch (s.reliefOrder ch window).target) :
    (s.placeRelief window l).Wired := by
  induction l generalizing s with
  | nil => exact w
  | cons ch rest ih =>
    obtain ⟨first, distinct⟩ := List.nodup_cons.mp distinct
    unfold State.placeRelief
    split
    · exact w.same (.raise s _)
    · rename_i ends
      rw [Bool.or_eq_true, not_or, decide_eq_true_iff, not_le] at ends
      obtain ⟨fresh, may⟩ := wanting ch List.mem_cons_self
      refine ih distinct (w.enqueued (o := s.reliefOrder ch window) may fresh ends.1) fun c hc => ?_
      obtain ⟨freshC, mayC⟩ := wanting c (List.mem_cons_of_mem _ hc)
      refine ⟨State.orderFor_eq_none.mpr fun p hp same => ?_, ⟨mayC.active, mayC.state, mayC.bound⟩⟩
      rcases mem_insertOrder.mp hp with rfl | old
      · have own : ch = c := same
        exact first (own ▸ hc)
      · exact State.orderFor_eq_none.mp freshC p old same

theorem generateRelief (i : SetSlot) (relief : Option SetSlot) (window : Nat) :
    (s.generateRelief i relief window).Wired := by
  unfold State.generateRelief
  split
  · exact w
  · rename_i r
    dsimp only
    split
    · refine placeRelief window _ (channels_nodup.filter _) w fun ch hch => ?_
      obtain ⟨_, wants⟩ := List.mem_filter.mp hch
      obtain ⟨qualifies, fresh⟩ := Bool.and_eq_true_iff.mp wants
      exact ⟨Option.isNone_iff_eq_none.mp fresh, State.mayOrder_relief qualifies window⟩
    · exact w.same (.raiseIf s _ _)

theorem evaluate (i : SetSlot) (secs : Nat) : (s.evaluate i secs).1.Wired := by
  cases found : s.set? i with
  | none => rw [State.evaluate_none found]; exact w
  | some r =>
    have collected : SameWiring s (s.collectFeeders i secs) :=
      .foldl (fun s ch => .ite (.putFeeder s ch) (.refl s)) channels s
    rw [State.evaluate_eq found]
    have written := w.same (collected.trans (.plain (.writeSet _ i r
      (r.evaluated (s.contributions i r) s.curves[r.curve] secs))))
    have relieved : (((s.collectFeeders i secs).writeSet i r
        (r.evaluated (s.contributions i r) s.curves[r.curve] secs)).reliefAtEntry i r
          (r.evaluated (s.contributions i r) s.curves[r.curve] secs)).Wired := by
      unfold State.reliefAtEntry
      split
      · exact written.generateRelief i _ _
      · exact written
    refine relieved.same ?_
    rw [State.creditShares_eq]
    exact .beside

end State.Wired

end Sys2Proof.Machine
end

section
/-! Feeders opened, faulted, proven, bound and re-derived keep the agreement (R55, R58 to R60, R63, R65, R66, R176). -/

namespace Sys2Proof.Machine

/-! ## Drives and the states they prove -/

theorem onlyClosed_injective : Function.Injective onlyClosed := fun d e => by
  cases d <;> cases e <;> decide

theorem onlyClosed_ne_open (d : Side) : onlyClosed d ≠ ⟨false, false⟩ := by cases d <;> decide

theorem onlyClosed_apart (d : Side) : ¬ ((onlyClosed d).a = true ∧ (onlyClosed d).b = true) := by
  cases d <;> decide

theorem FeederState.closed_drives {st : FeederState} {d : Side} (h : st.drives = onlyClosed d) : st = .on d := by
  cases st with
  | on e => exact congrArg FeederState.on (onlyClosed_injective h)
  | _ => exact absurd h.symm (onlyClosed_ne_open d)

/-- A transfer drives closed its target or its old side (R107 to R112). -/
theorem Transfer.closed_drives {x : Transfer} {d : Side} (h : x.drives = onlyClosed d) :
    x.target = d ∨ d ∈ x.fromSide := by
  have opened {P : Prop} (h : (⟨false, false⟩ : PerSide Bool) = onlyClosed d) : P :=
    absurd h.symm (onlyClosed_ne_open d)
  unfold Transfer.drives at h
  split at h
  · exact opened h
  · exact opened h
  · split at h
    · exact opened h
    · exact .inl (onlyClosed_injective h)
  · rename_i old
    exact .inr (onlyClosed_injective h ▸ old)
  · exact opened h

theorem FeederState.drives_apart (st : FeederState) : ¬ (st.drives.a = true ∧ st.drives.b = true) := by
  cases st with
  | on d => exact onlyClosed_apart d
  | _ => nofun

/-- Every phase drives both sides open or one of them closed (R107 to R112). -/
theorem Transfer.drives_apart (x : Transfer) : ¬ (x.drives.a = true ∧ x.drives.b = true) := by
  unfold Transfer.drives
  split
  · nofun
  · nofun
  · split
    · nofun
    · exact onlyClosed_apart x.target
  · exact onlyClosed_apart _
  · nofun

/-- There are two sides. -/
theorem Side.eq_other {d e : Side} (apart : e ≠ d) : e = d.other := by
  cases d with
  | A => cases e with
    | A => exact absurd rfl apart
    | B => rfl
  | B => cases e with
    | A => rfl
    | B => exact absurd rfl apart

theorem derivedState_ne_transfer (drive : PerSide Bool) (a b : Bool) : derivedState drive a b ≠ .transfer := by
  obtain ⟨p, q⟩ := drive
  revert p q a b
  decide

/-- Contacts that prove a state agree with its drives (R65). -/
theorem derivedState_drives {drive : PerSide Bool} {a b : Bool} (settled : derivedState drive a b ≠ .fault) :
    drive = (derivedState drive a b).drives := by
  obtain ⟨p, q⟩ := drive
  revert p q a b
  decide

/-- Contacts that prove a state with the drives of DARK or ON prove that state. -/
theorem derivedState_stays {drive : PerSide Bool} {a b : Bool} {st : FeederState} {d : Side}
    (state : st = .dark ∨ st = .on d) (drives : drive = st.drives) (settled : derivedState drive a b ≠ .fault) :
    derivedState drive a b = st := by
  subst drives
  rcases state with rfl | rfl
  · revert a b; decide
  · cases d <;> (revert a b; decide)

/-! ## One feeder written -/

namespace State.Wired

variable {s t : State} (w : s.Wired)
include w

/-- A feeder that no transfer is in hand for takes a record at rest that its order, if it has one, allows. -/
theorem settled {ch : Channel} {f : Feeder} (apart : s.heldChannel ≠ some ch) (rest : f.AtRest)
    (inactive : s.active ch = false → f.state = .dark)
    (orders : ∀ o ∈ s.queue, o.feeder = ch →
      (f.state = .dark ∨ f.state = .on o.target.other) ∧ (f.bound.get o.target).isSome = true) :
    (s.putFeeder ch f).Wired := by
  have own : (s.putFeeder ch f).feeder ch = f := s.feeder_putFeeder_self ch f
  refine w.rewired (ch := ch) ⟨rfl, .refl _, fun c other => ?_, fun _ _ => Iff.rfl⟩ ⟨fun _ => own.symm ▸ rest,
    fun x held same => absurd (State.heldChannel_eq_some.mpr ⟨x, held, same⟩) apart,
    fun no => own.symm ▸ inactive no, fun o ho same => ?_⟩
  · rw [State.feeder_putFeeder_ne _ _ other]
  · obtain ⟨state, bound⟩ := orders o ho same
    refine ⟨same ▸ (w.orders o ho).1, own.symm ▸ state, ?_⟩
    rw [State.boundSet, own]
    exact bound

/-- A feeder that no transfer is in hand for is flushed, loses its order and takes a record at rest. -/
theorem emptied {ch : Channel} {f : Feeder} (apart : s.heldChannel ≠ some ch) (rest : f.AtRest)
    (inactive : s.active ch = false → f.state = .dark) : ({ s.flush ch with
      feeders := (s.flush ch).feeders.set ch f, queue := s.queue.filter (·.feeder != ch) } : State).Wired := by
  have kept : ((s.queue.filter (·.feeder != ch)).map Order.wiring).Sublist ((s.flush ch).queue.map Order.wiring) := by
    rw [State.flush_eq]
    exact List.filter_sublist.map _
  have flushed := (w.same (.flush s ch)).requeued kept
  have held : (s.flush ch).heldChannel = s.heldChannel := by rw [State.flush_eq]; rfl
  have active : (s.flush ch).active ch = s.active ch := by rw [State.flush_eq]; rfl
  refine flushed.settled (ch := ch) (f := f) (held ▸ apart) rest (fun no => inactive (active ▸ no)) fun o ho same => ?_
  have gone := (List.mem_filter.mp ho).2
  rw [same] at gone
  simp at gone

/-- A fault of a feeder outside a transfer (R63). -/
theorem faultFeeder {ch : Channel} (apart : (s.feeder ch).state ≠ .transfer) (active : s.active ch = true)
    (cause : FaultCause) (caused : cause ≠ .none) : (s.faultFeeder ch cause).Wired := by
  rw [State.faultFeeder_flushed]
  refine State.Wired.same (w.emptied (mt (w.holds ch).mpr apart) ?_ ?_) (.raise _ _)
  · exact ⟨nofun, rfl, iff_of_false caused fun no => no rfl, nofun, nofun⟩
  · intro no; rw [active] at no; cases no

/-- An open check that ends leaves a feeder at rest, and the queue scans (R59). -/
theorem passOpenCheck {ch : Channel} (apart : (s.feeder ch).state ≠ .transfer) : (s.passOpenCheck ch).Wired := by
  have rest := w.atRest apart
  have own := w.own ch
  have proven : ({ s.feeder ch with openCheck := none } : Feeder).AtRest := { rest with check := nofun }
  have passed := w.settled (mt (w.holds ch).mpr apart) proven own.inactive fun o ho same =>
    ⟨(own.orders o ho same).state, (own.orders o ho same).bound⟩
  exact State.Wired.scan (passed.same (.rewatch _ ch 0))

/-! ## The transfer in hand -/

/-- The sequencer's work on the transfer in hand keeps the agreement, and so does the scan that follows its end. -/
theorem worked {x : Transfer} (held : s.transfer = some x) (on : OnChannel x.feeder s t)
    (done : t.Sequenced x.feeder) : t.scanIfIdle.Wired := by
  have worked := w.sequenced on (fun y held' => by cases held.symm.trans held'; rfl)
    (w.held_active (by rw [State.heldChannel, held]; rfl)) (w.held_alone held) done
  unfold State.scanIfIdle
  split
  · exact worked.scan
  · exact worked

/-- Opening a feeder by command, in a transfer or outside one (R58, R115). -/
theorem openByCommand {ch : Channel} (sound : (s.feeder ch).state ≠ .fault) : (s.openByCommand ch).Wired := by
  have opened (f : Feeder) (last : Option LastTransfer) : (s.openedFeeder ch f last).AtRest :=
    ⟨nofun, rfl, iff_of_true rfl nofun, fun _ => rfl, nofun⟩
  by_cases inHand : s.heldChannel = some ch
  · obtain ⟨x, held, rfl⟩ := State.heldChannel_eq_some.mp inHand
    rw [State.openByCommand_held w held]
    have on : OnChannel x.feeder s { s with
        feeders := s.feeders.set x.feeder (s.openedFeeder x.feeder (s.feeder x.feeder)
          (some ⟨x.target, .cancelled, .openedByCommand, s.now⟩))
        transfer := none, lastOutcome := some (s.outcomeOf x .cancelled .openedByCommand) } :=
      ⟨fun c other => s.feeder_putFeeder_ne _ other, 
        (congrArg Feeder.bound (s.feeder_putFeeder_self x.feeder _)).trans rfl, rfl, rfl⟩
    refine w.sequenced on (fun y held' => by cases held.symm.trans held'; rfl) (w.held_active inHand)
      (w.held_alone held) (.inl ⟨rfl, ?_⟩)
    exact (s.feeder_putFeeder_self x.feeder _).symm ▸ opened _ _
  · rw [State.openByCommand_idle inHand]
    exact w.emptied inHand (opened _ _) fun _ => rfl

/-! ## The resets (R65, R66, R176) -/

/-- A closed drive is on a bound side, in a transfer and outside one. -/
theorem closed_bound {ch : Channel} {d : Side} (closed : (s.feeder ch).drive = onlyClosed d) :
    ((s.feeder ch).bound.get d).isSome = true := by
  by_cases inHand : s.heldChannel = some ch
  · obtain ⟨x, held, rfl⟩ := State.heldChannel_eq_some.mp inHand
    have holds := w.holdsFor held
    rw [holds.drive] at closed
    rcases Transfer.closed_drives closed with target | old
    · exact target ▸ holds.runs.target
    · exact holds.runs.old d old
  · have rest := (w.own ch).rest inHand
    rw [rest.drive] at closed
    exact rest.bound d (FeederState.closed_drives closed)

/-- A feeder re-derived, in a state with the same record, is at rest (R65). -/
theorem rederiving_atRest {u : State} {ch : Channel} (same : u.feeder ch = s.feeder ch) :
    (u.rederiving ch).feeder.AtRest := by
  unfold State.rederiving
  split
  · exact ⟨nofun, rfl, iff_of_false (by unfold derivedCause; split <;> nofun) fun no => no rfl, nofun, nofun⟩
  · rename_i settled
    refine ⟨derivedState_ne_transfer _ _ _, derivedState_drives settled, iff_of_true rfl settled, nofun, fun d on => ?_⟩
    have closed := derivedState_drives settled
    rw [show derivedState (u.feeder ch).drive (u.fbClosed ch .A) (u.fbClosed ch .B) = .on d from on, same] at closed
    rw [show (u.feeder ch).bound = (s.feeder ch).bound by rw [same]]
    exact w.closed_bound closed

/-- After a reset every feeder is at rest, and one that is inactive is DARK (R176). -/
theorem resetBy_atRest (x : Straps) (ch : Channel) : ((s.resetBy x).feeder ch).AtRest
    ∧ ((s.underStraps x).active ch = false → ((s.resetBy x).feeder ch).state = .dark) := by
  by_cases active : (s.underStraps x).active ch = true
  · refine ⟨?_, fun no => by rw [active] at no; cases no⟩
    by_cases inHand : s.heldChannel = some ch
    · obtain ⟨y, held, rfl⟩ := State.heldChannel_eq_some.mp inHand
      rw [State.feeder_held held active]
      have derived : (s.ported.rederiving y.feeder).feeder.AtRest := w.rederiving_atRest rfl
      exact { derived with }
    · rw [State.feeder_resetBy, w.feeder_resetBy_rederived active inHand]
      exact w.rederiving_atRest rfl
  · have inactive : (s.underStraps x).active ch = false := by simpa using active
    by_cases leaves : ch ∈ leavingChannels s.straps x
    · rw [State.feeder_leaves leaves, w.leaving_feeder]
      exact ⟨⟨nofun, rfl, iff_of_true rfl nofun, nofun, nofun⟩, fun _ => rfl⟩
    · have before : s.active ch = false := by
        by_contra on
        exact leaves ((mem_leavingChannels s x ch).mpr ⟨by simpa using on, inactive⟩)
      have apart : s.heldChannel ≠ some ch := fun inHand => by
        rw [w.held_active inHand] at before
        cases before
      rw [State.feeder_resetBy_inactive inactive apart, State.feeder_sampled_stays leaves apart]
      exact ⟨(w.own ch).rest apart, fun _ => w.inactive ch before⟩

/-- A feeder with an order that a reset does not make FAULT keeps its state and its bound sets (R65). -/
theorem resetBy_ordered (x : Straps) {o : Order} (ho : o ∈ s.queue) (active : (s.underStraps x).active o.feeder = true)
    (sound : ((s.resetBy x).feeder o.feeder).state ≠ .fault) :
    ((s.resetBy x).feeder o.feeder).state = (s.feeder o.feeder).state
      ∧ ((s.resetBy x).feeder o.feeder).bound = (s.feeder o.feeder).bound := by
  have apart := w.order_other ho
  have rest := (w.own o.feeder).rest apart
  rw [State.feeder_resetBy, w.feeder_resetBy_rederived active apart] at sound ⊢
  rw [State.rederiving_state] at sound
  refine ⟨?_, ?_⟩
  · rw [State.rederiving_state]
    refine derivedState_stays (w.orders o ho).2 ?_ sound
    exact rest.drive
  · unfold State.rederiving
    split <;> rfl

/-- A reset keeps the agreement (R175, R176, R178). -/
theorem resetBy (x : Straps) : (s.resetBy x).Wired := by
  have idle : (s.resetBy x).heldChannel = none := by rw [State.heldChannel, State.transfer_resetBy]; rfl
  have active (ch : Channel) : (s.resetBy x).active ch = (s.underStraps x).active ch := by
    rw [State.resetBy_beside]; rfl
  refine State.wired_iff.mpr ⟨fun ch => ?_, w.queueSound.sublist ?_⟩
  · obtain ⟨rest, inactive⟩ := w.resetBy_atRest x ch
    refine ⟨fun _ => rest, fun y held => ?_, fun no => inactive (active ch ▸ no), fun o ho same => ?_⟩
    · rw [State.transfer_resetBy] at held
      cases held
    · subst same
      rw [w.queue_resetBy, List.mem_filter, Bool.and_eq_true, decide_eq_true_iff] at ho
      obtain ⟨ho, stays, sound⟩ := ho
      have may := (w.own o.feeder).orders o ho rfl
      have on : (s.underStraps x).active o.feeder = true := by simpa [may.active] using stays
      obtain ⟨state, bound⟩ := w.resetBy_ordered x ho on sound
      refine ⟨(active _).trans on, state ▸ may.state, ?_⟩
      rw [State.boundSet, bound]
      exact may.bound
  · rw [w.queue_resetBy]
    exact List.filter_sublist.map _

end State.Wired

end Sys2Proof.Machine
end

section
/-! The interlock through every row and every step (R47 to R49, R59, R83 to R85, R104). -/

namespace Sys2Proof.Machine

namespace State.Wired

variable {s t : State}

theorem ofNext {u : State} (w : u.Wired)
    (next : (Host.Outcome.next u : Host.Outcome State Fault Refusal) = .next t) : t.Wired := by
  cases next
  exact w

theorem cold (x : Straps) (pins : Pins) : (State.cold x pins).Wired := by
  have feeder (ch : Channel) : (State.cold x pins).feeder ch = Feeder.cold := by simp [State.feeder, State.cold]
  refine State.wired_iff.mpr ⟨fun ch => ⟨fun _ => ?_, nofun, fun _ => by rw [feeder]; rfl, nofun⟩, .nil, .nil,
    Nat.zero_le _⟩
  rw [feeder]
  exact ⟨nofun, rfl, iff_of_true rfl nofun, nofun, nofun⟩

variable (w : s.Wired)
include w

theorem serve {body : Except Status Reply} (leads : Leads State.Wired body)
    (next : Machine.serve s body = .next t) : t.Wired :=
  Leads.serve (fun _ _ _ w => w.same .beside) w leads next

/-! ## Commands -/

theorem restart (next : execRestart s = .next t) : t.Wired := by
  cases opened : s.portOpen with
  | true => exact ofNext ((w.resetBy s.straps).scan.same .beside) ((execRestart_eq opened).symm.trans next)
  | false =>
    refine ofNext (u := s.notTaken) (w.same .beside) ?_
    rw [← next, execRestart, opened]
    rfl

theorem setClock {minute : BitVec 24} (next : execSetClock minute s = .next t) : t.Wired :=
  w.serve (.bind fun _ _ => .ok (State.Wired.scan (w.same (.after (.expireOrders _) .beside)))) next

theorem reportRun {slot report : Byte} (next : execReportRun slot report s = .next t) : t.Wired := by
  refine w.serve (.bind fun i _ => .bind fun _ _ => .bind fun r _ => .bind fun _ _ =>
    .ite (fun _ => .ok ?_) fun _ => .ok ?_) next
  · exact State.Wired.scan (w.same .beside)
  · have partly : (s.partialEvaluation i (r.timer / 1000)).1.Wired := by
      unfold State.partialEvaluation
      split
      · exact w
      · exact w.evaluate i _
    exact State.Wired.scan (partly.same .beside)

/-- A side is bound only while it is open and no order targets it (R55). -/
theorem bindSide {channel side slot : Byte} (next : execBindSide channel side slot s = .next t) : t.Wired := by
  refine w.serve (.bind fun ch _ => .bind fun d _ => .bind fun i _ => .bind fun active _ => .bind fun _ _ =>
    .bind fun _ sideOpen => .bind fun _ idle => .bind fun _ unordered => .ok ?_) next
  have sideOpen : (s.feeder ch).state ≠ .on d := fun on =>
    bne_iff_ne.mp (require_eq_ok sideOpen) (Feeder.closedSide_eq_some.mpr on)
  have idle : (s.feeder ch).state ≠ .transfer := bne_iff_ne.mp (require_eq_ok idle)
  have unordered : ¬ s.orderTargets ch d = true := by simpa using require_eq_ok unordered
  have rest := w.atRest idle
  have kept {e : Side} (other : e ≠ d) : ((s.feeder ch).bound.set d i).get e = (s.feeder ch).bound.get e := by
    rw [Side.eq_other other, PerSide.get_set_other]
  refine w.settled (mt (w.holds ch).mpr idle) { rest with bound := fun e on => ?_ } (w.inactive ch)
    fun o ho same => ?_
  · exact (congrArg Option.isSome (kept fun own => sideOpen (own ▸ on))).trans (rest.bound e on)
  · have may := (w.own ch).orders o ho same
    refine ⟨may.state, (congrArg Option.isSome (kept fun own => unordered ?_)).trans may.bound⟩
    exact State.orderTargets_iff.mpr ⟨o, ho, same, own⟩

theorem openFeeder {channel : Byte} (next : execOpenFeeder channel s = .next t) : t.Wired := by
  refine w.serve (.bind fun ch _ => .ok ?_) next
  split
  · exact w
  · rename_i held
    exact (w.openByCommand (by rw [held]; nofun)).scan
  · rename_i sound _
    exact w.openByCommand sound

/-- A feeder in FAULT has no order, and its drives are open (R60). -/
theorem reconcileFeeder {channel : Byte} (next : execReconcileFeeder channel s = .next t) : t.Wired := by
  refine w.serve (.bind fun ch _ => .ite (fun proven => .ok ?_) fun _ => .ok w) next
  have fault : (s.feeder ch).state = .fault := of_decide_eq_true (Bool.and_eq_true_iff.mp proven).1
  have apart : (s.feeder ch).state ≠ .transfer := by rw [fault]; nofun
  have rest := w.atRest apart
  have drive : (s.feeder ch).drive = ⟨false, false⟩ := by rw [rest.drive, fault]; rfl
  have dark : ({ s.feeder ch with state := .dark, cause := .none } : Feeder).AtRest :=
    ⟨nofun, drive, iff_of_true rfl nofun, fun _ => rfl, nofun⟩
  refine State.Wired.scan (State.Wired.same (w.settled (mt (w.holds ch).mpr apart) dark (fun _ => rfl)
    fun o ho same => ?_) (.rewatch _ ch 0))
  exact ⟨.inl rfl, ((w.own ch).orders o ho same).bound⟩

/-- An order is placed for an active feeder that is DARK or ON the other side, towards a bound side (R86). -/
theorem enqueueOrder {channel side : Byte} {startMin endMin : BitVec 24}
    (next : execEnqueueOrder channel side startMin endMin s = .next t) : t.Wired := by
  refine w.serve (.bind fun ch _ => .bind fun d _ => .bind fun _ _ => .bind fun _ _ => .bind fun _ active =>
    .bind fun _ sound => .bind fun _ bound => .bind fun _ sideOpen => .bind fun _ _ => .bind fun _ fresh =>
    .bind fun _ room => .ok ?_) next
  have sideOpen : (s.feeder ch).state ≠ .on d := fun on =>
    bne_iff_ne.mp (require_eq_ok sideOpen) (Feeder.closedSide_eq_some.mpr on)
  obtain ⟨noFault, idle⟩ := Bool.and_eq_true_iff.mp (require_eq_ok sound)
  have state : (s.feeder ch).state = .dark ∨ (s.feeder ch).state = .on d.other := by
    cases e : (s.feeder ch).state with
    | dark => exact .inl rfl
    | on a =>
      exact .inr (congrArg FeederState.on (Side.eq_other fun same => sideOpen (same ▸ e)))
    | fault => exact absurd e (bne_iff_ne.mp noFault)
    | transfer => exact absurd e (bne_iff_ne.mp idle)
  exact (w.enqueued (o := ⟨ch, d, startMin.toNat, endMin.toNat, .operator, .notDue⟩)
    ⟨require_eq_ok active, state, require_eq_ok bound⟩ (Option.isNone_iff_eq_none.mp (require_eq_ok fresh))
    (of_decide_eq_true (require_eq_ok room))).scan

theorem cancelOrder {channel : Byte} (next : execCancelOrder channel s = .next t) : t.Wired := by
  refine w.serve (.bind fun ch _ => .bind fun _ _ => ?_) next
  split
  · exact .error _
  · exact .ok (w.same (.removeOrder s ch _ _))

/-! ## Lines and timers of a feeder -/

theorem energyPulse {ch : Channel} (next : execEnergyPulse ch s = .next t) : t.Wired := by
  refine ofNext (w.same ?_) next
  split
  · rw [State.billEnergy_eq]
    exact .after .beside (.putFeeder s ch)
  · exact .refl s

theorem feedbackSeen (ch : Channel) (d : Side) : (s.feedbackSeen ch d).Wired := by
  unfold State.feedbackSeen
  split
  · rename_i x _ held
    split
    · exact w.worked held (.testPhase s x) (State.testPhase_sequenced held (w.holdsFor held))
    · exact w
  · split
    · rename_i check
      have dark := w.openChecks ch check
      split
      · exact w.passOpenCheck (by rw [dark]; nofun)
      · exact w
    · exact w.same (.rewatch s ch 0)

theorem feedbackChange {ch : Channel} {d : Side} {level : Bool} (next : execFeedbackChange ch d level s = .next t) :
    t.Wired := by
  have moved : (s.setFeedback ch d level).Wired := w.same .beside
  refine ofNext ?_ next
  split
  · exact w
  · dsimp only
    split
    · exact moved.feedbackSeen ch d
    · exact moved

theorem disagreementTimerExpiry {ch : Channel} {d : Side}
    (next : execDisagreementTimerExpiry ch d s = .next t) : t.Wired := by
  refine ofNext ?_ next
  split
  · rename_i due
    obtain ⟨active, seen, _⟩ := (s.watchDue_iff ch d).mp due
    refine w.faultFeeder ?_ active _ (by split <;> nofun)
    rcases seen with ⟨e, _⟩ | e | e <;> rw [e] <;> nofun
  · exact w

theorem openCheckDeadline {ch : Channel} (next : execOpenCheckDeadline ch s = .next t) : t.Wired := by
  refine ofNext ?_ next
  split
  · rename_i due
    obtain ⟨active, out⟩ := Bool.and_eq_true_iff.mp due
    have dark := w.openChecks ch (by rw [beq_iff_eq.mp out]; rfl)
    have apart : (s.feeder ch).state ≠ .transfer := by rw [dark]; nofun
    split
    · exact w.passOpenCheck apart
    · exact w.faultFeeder apart active _ nofun
  · exact w

theorem intervalExpiry {i : SetSlot} (next : execIntervalExpiry i s = .next t) : t.Wired := by
  refine ofNext ?_ next
  split
  · exact w
  · split
    · exact State.Wired.scan ((w.evaluate i 60).same .beside)
    · exact w

/-! ## Deadlines of the sequencer -/

/-- A deadline that runs out works on the transfer in hand; any other expiry does nothing (R106). -/
theorem due {f : Transfer → State} (work : ∀ x, s.transfer = some x → x.Holds (s.feeder x.feeder) → (f x).Wired)
    (next : (Host.Outcome.next (match s.deadlineDue with
      | some x => f x
      | none => s) : Host.Outcome State Fault Refusal) = .next t) : t.Wired := by
  cases out : s.deadlineDue with
  | none => rw [out] at next; exact ofNext w next
  | some x =>
    rw [out] at next
    have held := (State.deadlineDue_eq_some.mp out).1
    exact ofNext (work x held (w.holdsFor held)) next

theorem openTimeout (next : execOpenTimeout s = .next t) : t.Wired := by
  refine w.due (fun x held holds => ?_) next
  split
  · rename_i phase old
    exact w.worked held (.openTimedOut s x _) (State.openTimedOut_sequenced holds.runs old (holds.drive_opening phase))
  · exact w

theorem deadTimeExpiry (next : execDeadTimeExpiry s = .next t) : t.Wired := by
  refine w.due (fun x held holds => ?_) next
  split
  · rename_i phase old
    have drive := holds.drive_dead phase
    split
    · exact w.worked held (.beginClosing s x) (State.beginClosing_sequenced holds.runs drive)
    · exact w.worked held (.beginFallback s x _ _)
        (State.beginFallback_sequenced holds.runs old (holds.notReleasing (by rw [phase]; nofun)) (.inl drive) _)
  · exact w

theorem closeTimeout (next : execCloseTimeout s = .next t) : t.Wired := by
  refine w.due (fun x held holds => ?_) next
  split
  · rename_i phase early old
    have drive := holds.drive_closing phase
    rw [early] at drive
    exact w.worked held (.beginFallback s x _ _) (State.beginFallback_sequenced holds.runs old early (.inr drive) _)
  · rename_i phase early dark
    have drive := holds.drive_closing phase
    rw [early] at drive
    exact w.worked held (.beginReleasing s x) (State.beginReleasing_sequenced holds.runs dark phase drive)
  · exact w

theorem releaseDeadline (next : execReleaseDeadline s = .next t) : t.Wired := by
  refine w.due (fun x held holds => ?_) next
  split
  · exact w.worked held (.endTransfer s x _ _ _ _ _) (State.endStuck_sequenced holds.runs _ _ _)
  · exact w

theorem fallbackTimeout (next : execFallbackTimeout s = .next t) : t.Wired := by
  refine w.due (fun x held holds => ?_) next
  split
  · exact w.worked held (.endTransfer s x _ _ _ _ _) (State.endStuck_sequenced holds.runs _ _ _)
  · exact w

/-! ## Clock, lines, resets and the millisecond -/

theorem minuteAdvance : s.minuteAdvance.Wired :=
  State.Wired.scan (w.same (.after (.expireOrders _) (.ite .beside .beside)))

theorem siteSecondAdvance (next : execSiteSecondAdvance s = .next t) : t.Wired := by
  refine ofNext ?_ next
  split
  · unfold State.secondAdvance
    split
    · exact w.same .beside
    · have carried : ({ s with clock := { s.clock with second := 0, millis := 0 } } : State).Wired := w.same .beside
      dsimp only
      split
      · exact carried.minuteAdvance
      · exact carried
  · exact w

theorem resumeTimerExpiry (next : execResumeTimerExpiry s = .next t) : t.Wired := by
  refine ofNext ?_ next
  split
  · exact State.Wired.scan (w.same (.after (.raise _ _) .beside))
  · exact w

theorem resetNRise {x : Straps} (next : execResetNRise x s = .next t) : t.Wired := by
  cases line : s.pins.resetN with
  | true =>
    refine ofNext (u := s) w ?_
    rw [← next, execResetNRise, line]
    rfl
  | false => exact ofNext (w.resetBy x).scan ((execResetNRise_eq line x).symm.trans next)

/-- A millisecond moves timers (R167). -/
theorem tick : s.tick.Wired := by
  have transfer : s.tickTransfer.map Transfer.wiring = s.transfer.map Transfer.wiring := by
    unfold State.tickTransfer
    split
    · rw [Option.map_map]; rfl
    · rfl
  refine w.same ⟨by rw [State.tick_eq]; rfl, by rw [State.tick_eq]; rfl, fun ch _ => ?_, fun x _ => ?_⟩
  · rw [State.feeder_tick, State.tickedFeeder]
    split
    · rw [Feeder.wiring, Option.map_map]; rfl
    · rfl
  · rw [State.tick_eq]
    exact Eq.congr_left transfer

/-! ## Every row -/

/-- Every row but the raw frame. -/
theorem row : ∀ c : Instr, plainRow c = false → (∀ f, c ≠ .unknownCommand f) → exec c s = .next t → t.Wired
  | .restart, _, _, next => w.restart next
  | .setClock _, _, _, next => w.setClock next
  | .reportRun _ _, _, _, next => w.reportRun next
  | .bindSide _ _ _, _, _, next => w.bindSide next
  | .assignFeederAccount _ _, _, _, next => w.serve (.bind fun ch _ => .bind fun _ _ => .bind fun _ _ =>
      .bind fun _ _ => .ok (w.same ((WiringKept.flush s ch).trans (.putFeeder _ ch)))) next
  | .setFeederParameters _ _ _, _, _, next => w.serve (.bind fun ch _ => .bind fun _ _ => .bind fun _ _ =>
      .ok (w.same (.putFeeder s ch))) next
  | .openFeeder _, _, _, next => w.openFeeder next
  | .reconcileFeeder _, _, _, next => w.reconcileFeeder next
  | .enqueueOrder _ _ _ _, _, _, next => w.enqueueOrder next
  | .cancelOrder _, _, _, next => w.cancelOrder next
  | .setTransferParameters _ _ _, _, _, next => w.serve (.ok (w.same .beside)) next
  | .energyPulse _, _, _, next => w.energyPulse next
  | .feedbackChange _ _ _, _, _, next => w.feedbackChange next
  | .disagreementTimerExpiry _ _, _, _, next => w.disagreementTimerExpiry next
  | .openCheckDeadline _, _, _, next => w.openCheckDeadline next
  | .intervalExpiry _, _, _, next => w.intervalExpiry next
  | .openTimeout, _, _, next => w.openTimeout next
  | .deadTimeExpiry, _, _, next => w.deadTimeExpiry next
  | .closeTimeout, _, _, next => w.closeTimeout next
  | .releaseDeadline, _, _, next => w.releaseDeadline next
  | .fallbackTimeout, _, _, next => w.fallbackTimeout next
  | .siteSecondAdvance, _, _, next => w.siteSecondAdvance next
  | .supplyOkFall, _, _, next => ofNext (w.same (.ite .beside (.refl s))) next
  | .supplyOkRise, _, _, next => ofNext (w.same (.ite (.refl s) .beside)) next
  | .resumeTimerExpiry, _, _, next => w.resumeTimerExpiry next
  | .resetNFall, _, _, next => ofNext (w.same (.ite .beside (.refl s))) next
  | .resetNRise _, _, _, next => w.resetNRise next
  | .coldStart x pins, _, _, next => ofNext ((cold x pins).same .beside) next
  | .unknownCommand f, _, raw, _ => absurd rfl (raw f)

omit w in
theorem stepLeads : StepLeads State.Wired State.Wired where
  waits _ _ _ _ w := w.same .beside
  port _ _ _ w := w.same .beside
  rows c s t raw w next := by
    cases plain : plainRow c with
    | true => exact w.same (.plain (exec_plain c plain next))
    | false => exact w.row c plain raw next
  tick _ w := w.tick

/-- No feeder has both its drives closed (R49). -/
theorem drives_apart (ch : Channel) : ¬ ((s.feeder ch).drive.a = true ∧ (s.feeder ch).drive.b = true) := by
  by_cases inHand : s.heldChannel = some ch
  · obtain ⟨x, held, rfl⟩ := State.heldChannel_eq_some.mp inHand
    rw [(w.holdsFor held).drive]
    exact x.drives_apart
  · rw [((w.own ch).rest inHand).drive]
    exact FeederState.drives_apart _

end State.Wired

/-- Settles O56: the agreement channel by channel through every row and the millisecond. -/
theorem everyStepKeepsTheInterlock : Obligations.EveryStepKeepsTheInterlock :=
  ⟨fun _ _ w next => State.Wired.stepLeads.step w next, fun _ w ch => w.drives_apart ch⟩

end Sys2Proof.Machine
end

section
/-! The shares of a burn (R77 to R79): the floor shares leave no more millilitres than entries have remainders
above 0, the order of R79 gives each entry a place of its own, and so the places before the leftover's end are as
many as the leftover. -/

namespace Sys2Proof.Machine

/-! ## Floor shares and remainders (R78) -/

theorem totalOf_pos {l : List (AccountSlot × Nat)} (collected : l ≠ []) (amounts : ∀ p ∈ l, 1 ≤ p.2) :
    0 < totalOf l :=
  List.sum_pos _ (List.forall_mem_map.mpr amounts) (by simpa using collected)

/-- What the floor shares of a burn leave of it is what the remainders add up to. -/
theorem sum_floorShare_add_sum_shareRemainder (burn total : Nat) (l : List (AccountSlot × Nat)) :
    total * (l.map (floorShare burn total)).sum + (l.map (shareRemainder burn total)).sum = burn * totalOf l := by
  induction l with
  | nil => rfl
  | cons p l ih =>
    have divided : total * floorShare burn total p + shareRemainder burn total p = burn * p.2 :=
      Nat.div_add_mod _ _
    simp only [totalOf, List.map_cons, List.sum_cons, Nat.mul_add] at ih ⊢
    omega

theorem sum_shareRemainder_le (burn : Nat) {total : Nat} (positive : 0 < total) (l : List (AccountSlot × Nat)) :
    (l.map (shareRemainder burn total)).sum ≤ total * l.countP fun p => 0 < shareRemainder burn total p := by
  induction l with
  | nil => simp
  | cons p l ih =>
    have below : shareRemainder burn total p < total := Nat.mod_lt _ positive
    by_cases rest : 0 < shareRemainder burn total p
    · simp only [List.map_cons, List.sum_cons, List.countP_cons, rest, decide_true, if_true, Nat.mul_add]
      omega
    · simp only [List.map_cons, List.sum_cons, List.countP_cons, rest, decide_false]
      simpa [Nat.eq_zero_of_not_pos rest] using ih

/-- One more for each entry that meets a condition adds the number of those entries. -/
theorem sum_map_add_ite {α : Type} (f : α → Nat) (P : α → Prop) [DecidablePred P] (l : List α) :
    (l.map fun p => f p + if P p then 1 else 0).sum = (l.map f).sum + l.countP P := by
  induction l with
  | nil => rfl
  | cons p l ih =>
    simp only [List.map_cons, List.sum_cons, List.countP_cons, decide_eq_true_eq, ih]
    omega

section Burn

variable {burn : Nat} {l : List (AccountSlot × Nat)}

theorem sum_floorShare_add_leftover (positive : 0 < totalOf l) :
    (l.map (floorShare burn (totalOf l))).sum + leftover burn l = burn := by
  have whole := sum_floorShare_add_sum_shareRemainder burn (totalOf l) l
  have le : (l.map (floorShare burn (totalOf l))).sum ≤ burn :=
    Nat.le_of_mul_le_mul_left (by rw [Nat.mul_comm _ burn]; omega) positive
  rw [leftover]
  omega

/-- Each millilitre left over has an entry with a remainder above 0 to go to. -/
theorem leftover_le_countP (positive : 0 < totalOf l) :
    leftover burn l ≤ l.countP fun p => 0 < shareRemainder burn (totalOf l) p := by
  have whole := sum_floorShare_add_sum_shareRemainder burn (totalOf l) l
  have parts := congrArg (totalOf l * ·) (sum_floorShare_add_leftover (burn := burn) positive)
  have bound := sum_shareRemainder_le burn positive l
  simp only [Nat.mul_add, Nat.mul_comm _ burn] at parts
  exact Nat.le_of_mul_le_mul_left (by omega) positive

/-! ## The order of R79 -/

theorem ranksBefore_iff {total : Nat} {q p : AccountSlot × Nat} : ranksBefore burn total q p = true ↔
    shareRemainder burn total p < shareRemainder burn total q
      ∨ (shareRemainder burn total p = shareRemainder burn total q ∧ q.1 < p.1) := by
  simp only [ranksBefore, Bool.or_eq_true, Bool.and_eq_true, decide_eq_true_eq, beq_iff_eq,
    eq_comm (a := shareRemainder burn total q)]

theorem ranksBefore_irrefl {total : Nat} (p : AccountSlot × Nat) : ranksBefore burn total p p = false := by
  simp [ranksBefore]

theorem ranksBefore_trans {total : Nat} {p q r : AccountSlot × Nat} (pq : ranksBefore burn total p q = true)
    (qr : ranksBefore burn total q r = true) : ranksBefore burn total p r = true := by
  simp only [ranksBefore_iff, Fin.lt_def] at *
  omega

/-- Of two entries of distinct accounts one comes before the other. -/
theorem ranksBefore_total {total : Nat} {p q : AccountSlot × Nat} (other : p.1 ≠ q.1) :
    ranksBefore burn total p q = true ∨ ranksBefore burn total q p = true := by
  simp only [ranksBefore_iff, Fin.lt_def]
  have : p.1.val ≠ q.1.val := Fin.val_ne_of_ne other
  omega

/-- An entry that comes before another has the lower rank: what comes before it comes before the other too, and
so does it. -/
theorem rankOf_lt {p q : AccountSlot × Nat} (hq : q ∈ l) (before : ranksBefore burn (totalOf l) q p = true) :
    rankOf burn l q < rankOf burn l p := by
  have split := List.perm_cons_erase hq
  have others : (l.erase q).countP (fun x => ranksBefore burn (totalOf l) x q)
      ≤ (l.erase q).countP (fun x => ranksBefore burn (totalOf l) x p) :=
    List.countP_mono_left fun x _ first => ranksBefore_trans first before
  rw [rankOf, rankOf, split.countP_eq, split.countP_eq]
  simpa [List.countP_cons, before, ranksBefore_irrefl, Nat.lt_succ_iff] using others

theorem rankOf_lt_length {p : AccountSlot × Nat} (hp : p ∈ l) : rankOf burn l p < l.length :=
  List.countP_lt_length_iff.mpr ⟨p, hp, ranksBefore_irrefl p⟩

section Distinct

variable (distinct : (l.map (·.1)).Nodup)
include distinct

/-- The entry of the lower rank comes first. -/
theorem ranksBefore_of_rankOf_lt {p q : AccountSlot × Nat} (hp : p ∈ l) (hq : q ∈ l)
    (lower : rankOf burn l p < rankOf burn l q) : ranksBefore burn (totalOf l) p q = true := by
  have other : p.1 ≠ q.1 := fun same => by
    rw [List.inj_on_of_nodup_map distinct hp hq same] at lower
    exact Nat.lt_irrefl _ lower
  exact (ranksBefore_total other).resolve_right fun later => Nat.lt_asymm lower (rankOf_lt hq later)

/-- The ranks of the entries are the numbers below their count, each once. -/
theorem map_rankOf_perm : (l.map (rankOf burn l)).Perm (List.range l.length) := by
  have each : (l.map (rankOf burn l)).Nodup := by
    refine List.Nodup.map_on (fun p hp q hq same => ?_) distinct.of_map
    by_contra differ
    have other : p.1 ≠ q.1 := fun account => differ (List.inj_on_of_nodup_map distinct hp hq account)
    rcases ranksBefore_total (burn := burn) (total := totalOf l) other with first | first
    · exact (rankOf_lt hp first).ne same
    · exact (rankOf_lt hq first).ne' same
  refine (List.subperm_of_subset each fun k hk => ?_).perm_of_length_le (by simp)
  obtain ⟨p, hp, rfl⟩ := List.mem_map.mp hk
  exact List.mem_range.mpr (rankOf_lt_length hp)

/-- As many entries have a rank below a number as the number says. -/
theorem countP_rankOf_lt {k : Nat} (enough : k ≤ l.length) : l.countP (fun p => rankOf burn l p < k) = k := by
  have ranks := (map_rankOf_perm (burn := burn) distinct).countP_eq fun x => decide (x < k)
  rw [List.countP_map] at ranks
  obtain ⟨later, count⟩ := Nat.exists_eq_add_of_le enough
  refine ranks.trans ?_
  rw [count, List.range_add, List.countP_append, List.countP_eq_length.mpr (by simp),
    List.countP_eq_zero.mpr (by simp), List.length_range, Nat.add_zero]

/-! ## The final shares (R79) -/

/-- The leftover millilitres all find an entry. -/
theorem sum_finalShare (positive : 0 < totalOf l) : (l.map (finalShare burn l)).sum = burn := by
  have enough : leftover burn l ≤ l.length := (leftover_le_countP positive).trans List.countP_le_length
  calc (l.map (finalShare burn l)).sum
      = (l.map (floorShare burn (totalOf l))).sum + l.countP fun p => rankOf burn l p < leftover burn l :=
        sum_map_add_ite _ _ l
    _ = burn := by rw [countP_rankOf_lt distinct enough, sum_floorShare_add_leftover positive]

end Distinct

/-- An entry whose turn comes before the leftover is spent has a remainder above 0: with none, every entry that
has one would come before it, and there are at least as many as millilitres left. -/
theorem shareRemainder_pos (positive : 0 < totalOf l) {p : AccountSlot × Nat}
    (turn : rankOf burn l p < leftover burn l) : 0 < shareRemainder burn (totalOf l) p := by
  by_contra zero
  have ahead : l.countP (fun q => 0 < shareRemainder burn (totalOf l) q) ≤ rankOf burn l p :=
    List.countP_mono_left fun q _ above => ranksBefore_iff.mpr (.inl (by
      rw [Nat.eq_zero_of_not_pos zero]
      exact of_decide_eq_true above))
  exact Nat.not_lt.mpr ((leftover_le_countP positive).trans ahead) turn

theorem finalShare_eq_succ_iff {p : AccountSlot × Nat} :
    finalShare burn l p = floorShare burn (totalOf l) p + 1 ↔ rankOf burn l p < leftover burn l := by
  simp [finalShare]

theorem finalShare_eq_floorShare_iff {p : AccountSlot × Nat} :
    finalShare burn l p = floorShare burn (totalOf l) p ↔ leftover burn l ≤ rankOf burn l p := by
  simp [finalShare]

/-! ## The list of shares -/

theorem sharesOf_of_pos (positive : 0 < totalOf l) (idle : AccountSlot) :
    sharesOf burn l idle = l.map fun p => (p.1, finalShare burn l p) := if_neg positive.ne'

theorem sharesOf_nil (burn : Nat) (idle : AccountSlot) : sharesOf burn [] idle = [(idle, burn)] := rfl

theorem lookup_sharesOf (distinct : (l.map (·.1)).Nodup) (positive : 0 < totalOf l) (idle : AccountSlot)
    {p : AccountSlot × Nat} (hp : p ∈ l) : (sharesOf burn l idle).lookup p.1 = some (finalShare burn l p) := by
  rw [← mem_iff_lookup (sharesOf_nodup burn idle distinct), sharesOf_of_pos positive]
  exact List.mem_map_of_mem hp

/-- Every figure of a final share is a sum or a count over the list, so the list's order has no part in it. -/
theorem sharesOf_perm {m : List (AccountSlot × Nat)} (same : l.Perm m) (burn : Nat) (idle : AccountSlot) :
    (sharesOf burn l idle).Perm (sharesOf burn m idle) := by
  have total : totalOf l = totalOf m := (same.map _).sum_eq
  have left : leftover burn l = leftover burn m := by rw [leftover, leftover, total, (same.map _).sum_eq]
  have share (p : AccountSlot × Nat) : finalShare burn l p = finalShare burn m p := by
    rw [finalShare, finalShare, rankOf, rankOf, total, left, same.countP_eq]
  unfold sharesOf
  simp only [total, share]
  split
  · exact .refl _
  · exact same.map _

end Burn

/-- Lists of the same shares give an account the same share. -/
theorem lookup_perm {l m : List (AccountSlot × Nat)} (distinct : (l.map (·.1)).Nodup) (same : l.Perm m)
    (a : AccountSlot) : l.lookup a = m.lookup a := by
  refine Option.ext fun share => ?_
  rw [← mem_iff_lookup distinct, same.mem_iff, mem_iff_lookup ((same.map _).nodup distinct)]

/-- Settles O32: by the rank each entry has in the order of R79. -/
theorem sharesSumToTheBurn : Obligations.SharesSumToTheBurn := by
  intro burn l idle distinct amounts d shares
  have permuted (l' : List (AccountSlot × Nat)) (same : l.Perm l') (a : AccountSlot) :
      (sharesOf burn l' idle).lookup a = shares.lookup a :=
    (lookup_perm (sharesOf_nodup burn idle distinct) (sharesOf_perm same burn idle) a).symm
  rcases eq_or_ne l [] with rfl | collected
  · exact ⟨Nat.add_zero burn, fun _ => sharesOf_nil burn idle, fun collected => absurd rfl collected,
      fun p hp => absurd hp List.not_mem_nil, permuted⟩
  have positive := totalOf_pos collected amounts
  have listed : shares = l.map fun p => (p.1, finalShare burn l p) := sharesOf_of_pos positive idle
  have share {p : AccountSlot × Nat} (hp : p ∈ l) (n : Nat) :
      shares.lookup p.1 = some n ↔ finalShare burn l p = n := by
    rw [lookup_sharesOf distinct positive idle hp, Option.some_inj]
  have more {p : AccountSlot × Nat} (hp : p ∈ l) :
      shares.lookup p.1 = some (burn * p.2 / d + 1) ↔ rankOf burn l p < leftover burn l :=
    (share hp _).trans finalShare_eq_succ_iff
  have floor {p : AccountSlot × Nat} (hp : p ∈ l) :
      shares.lookup p.1 = some (burn * p.2 / d) ↔ leftover burn l ≤ rankOf burn l p :=
    (share hp _).trans finalShare_eq_floorShare_iff
  refine ⟨?sum, fun empty => absurd empty collected, fun _ => ⟨?accounts, fun p hp => ?either,
      fun p hp q hq first last => ?order⟩,
    fun p hp first => shareRemainder_pos positive ((more hp).mp first), permuted⟩
  case sum =>
    rw [listed, List.map_map]
    exact sum_finalShare distinct positive
  case accounts => rw [listed, List.map_map]; rfl
  case either => exact ((Nat.lt_or_ge _ _).imp (more hp).mpr (floor hp).mpr).symm
  case order =>
    have lower := ((more hp).mp first).trans_le ((floor hq).mp last)
    exact ranksBefore_iff.mp (ranksBefore_of_rankOf_lt distinct hp hq lower)

end Sys2Proof.Machine
end

section
/-! A flush takes its energy into the carried list or the overflow (R53, R70), and Assign Feeder Account, behind its
checks, flushes and names the account (R56). -/

namespace Sys2Proof.Machine

/-! ## The three ways of R70 -/

section Carry

variable {r : SetRec} {a : AccountSlot}

/-- Whether an account has an entry, as `carry` and `addEntry` ask it. -/
theorem any_account_iff {l : List (AccountSlot × Nat)} : l.any (fun p => p.1 == a) = true ↔ a ∈ l.map (·.1) := by
  simp

theorem SetRec.carry_merges (listed : a ∈ r.carried.map (·.1)) (e : Nat) : r.carry a e = { r with
    carried := r.carried.map fun p => if p.1 = a then (a, min 4294967295 (p.2 + e)) else p } := by
  have entry := any_account_iff.mpr listed
  rw [SetRec.carry, if_pos (by rw [entry, Bool.true_or]), addEntry, if_pos entry]
  rfl

theorem SetRec.carry_appends (unlisted : a ∉ r.carried.map (·.1)) (room : r.carried.length < 4) (e : Nat) :
    r.carry a e = { r with carried := r.carried ++ [(a, e)] } := by
  rw [SetRec.carry, if_pos (by rw [decide_eq_true room, Bool.or_true]), addEntry,
    if_neg (mt any_account_iff.mp unlisted)]

theorem SetRec.carry_overflows (unlisted : a ∉ r.carried.map (·.1)) (full : 4 ≤ r.carried.length) (e : Nat) :
    r.carry a e = { r with overflow := min 4294967295 (r.overflow + e) } := by
  have entry := Bool.eq_false_of_not_eq_true (mt any_account_iff.mp unlisted)
  rw [SetRec.carry, if_neg (by simp [entry, full])]
  rfl

end Carry

/-- A flush of a feeder on a hired set writes that set's record and empties the feeder's interval (R53). -/
theorem State.flush_moves {s : State} {ch : Channel} {i : SetSlot} {r : SetRec}
    (energised : (s.feeder ch).energisedSet = some i) (found : s.set? i = some r)
    (waiting : 0 < (s.feeder ch).interval) :
    s.flush ch = { s with
      sets := s.sets.set i (some (r.carry (s.feeder ch).account (s.feeder ch).interval))
      feeders := s.feeders.set ch { s.feeder ch with interval := 0 } } := by
  have moves : s.flushMoves ch = some (i, (s.feeder ch).interval) := by
    rw [State.flushMoves, energised]
    exact if_pos waiting
  rw [State.flush, moves]
  dsimp only
  rw [State.updSet_eq found]
  rfl

/-- With nothing to move, or no set to move it to, a flush changes nothing (R53). -/
theorem State.flush_idle {s : State} {ch : Channel}
    (idle : (s.feeder ch).energisedSet = none ∨ (s.feeder ch).interval = 0) : s.flush ch = s := by
  rcases s.flush_cases ch with same | ⟨i, energised, waiting, -⟩
  · exact same
  · rcases idle with unset | empty
    · rw [unset] at energised
      cases energised
    · omega

/-! ## Assign Feeder Account (R56) -/

section AssignFeederAccount

variable {s : State} {cb ab : Byte} {ch : Channel} {a : AccountSlot} (hopen : s.portOpen = true)
  (hcb : cb.toNat = ch.val) (hab : ab.toNat = a.val)
include hopen hcb hab

theorem execAssignFeederAccount_noRecord (h : s.active ch = false ∨ s.account? a = none) :
    execAssignFeederAccount cb ab s = s.refused .noRecord := by
  refine serve_refused hopen ?_
  rw [indexOperand_ok hcb, ok_bind, indexOperand_ok hab, ok_bind, require_bind]
  by_cases active : s.active ch = true
  · rw [if_pos active, openSlot_none (h.resolve_left (by simp [active])), error_bind]
  · rw [if_neg active]

theorem execAssignFeederAccount_names (active : s.active ch = true) (opened : (s.account? a).isSome = true)
    {moved : List Byte} (bytes : flushBytes (s.flushMoves ch) = moved) :
    execAssignFeederAccount cb ab s = .next { s.flush ch with
      feeders := (s.flush ch).feeders.set ch { (s.flush ch).feeder ch with account := a }
      sdo := .low, result := ⟨.ok, be 1 ch.val ++ be 1 a.val ++ moved⟩ } := by
  obtain ⟨x, opened⟩ := Option.isSome_iff_exists.mp opened
  subst bytes
  rw [execAssignFeederAccount, indexOperand_ok hcb, ok_bind, indexOperand_ok hab, ok_bind, require_bind, if_pos active,
    openSlot_some opened, ok_bind]
  exact serve_ok hopen

end AssignFeederAccount

/-- Settles O35: the flush by the way its energy goes, the command by its two outcomes. -/
theorem flushFillsTheCarriedListAndAssignNamesTheAccount :
    Obligations.FlushFillsTheCarriedListAndAssignNamesTheAccount := by
  refine ⟨fun s ch i r energised found waiting => ?moves, fun _ _ => State.flush_idle,
    fun s cb ab ch a hopen hcb hab => ⟨execAssignFeederAccount_noRecord hopen hcb hab, fun active opened => ?names⟩⟩
  case moves =>
    have moves := State.flush_moves energised found waiting
    exact ⟨fun listed => by rw [moves, SetRec.carry_merges listed],
      fun unlisted room => by rw [moves, SetRec.carry_appends unlisted room],
      fun unlisted full => by rw [moves, SetRec.carry_overflows unlisted full]⟩
  case names => exact execAssignFeederAccount_names hopen hcb hab active opened (s.flushBytes_eq ch)

end Sys2Proof.Machine
end

section
/-! Open Account and Retire Account, outcome by outcome (R73, R149, R152, R153). -/

namespace Sys2Proof.Machine

/-! ## Open Account (R149) -/

theorem State.slotOfCode_isSome {s : State} {code : BitVec 32} (h : ∃ a r, s.account? a = some r ∧ r.code = code) :
    (s.slotOfCode code).isNone = false := by
  obtain ⟨a, r, opened, carries⟩ := h
  cases e : s.slotOfCode code with
  | none => exact absurd carries (State.slotOfCode_eq_none.mp e a r opened)
  | some _ => rfl

theorem State.slotOfCode_fresh {s : State} {code : BitVec 32}
    (fresh : ¬ ∃ a r, s.account? a = some r ∧ r.code = code) : s.slotOfCode code = none :=
  State.slotOfCode_eq_none.mpr fun a r opened carries => fresh ⟨a, r, opened, carries⟩

section OpenAccount

variable {s : State} {code : BitVec 32} {label : List Byte} (hopen : s.portOpen = true)
include hopen

theorem execOpenAccount_exists (taken : ∃ a r, s.account? a = some r ∧ r.code = code) :
    execOpenAccount code label s = s.refused .exists := by
  refine serve_refused hopen ?_
  rw [State.slotOfCode_isSome taken, require_false, error_bind]

variable (fresh : ¬ ∃ a r, s.account? a = some r ∧ r.code = code)
include fresh

theorem execOpenAccount_full (full : ∀ a, (s.account? a).isSome = true) :
    execOpenAccount code label s = s.refused .full := by
  have none_free : (accountSlots.find? fun a => (s.account? a).isNone) = none :=
    List.find?_eq_none.mpr fun a _ => by simp [Option.isSome_iff_ne_none.mp (full a)]
  refine serve_refused hopen ?_
  rw [State.slotOfCode_fresh fresh, Option.isNone_none, require_true, ok_bind, none_free]

/-- With the code new the lowest free slot takes the record of a fresh account (R149). -/
theorem execOpenAccount_opens {a : AccountSlot} (free : s.account? a = none)
    (below : ∀ b, b < a → (s.account? b).isSome = true) : execOpenAccount code label s = .next { s with
      accounts := s.accounts.set a (some (Account.fresh code label s.now))
      sdo := .low, result := ⟨.ok, be 1 a.val ++ be 3 s.now⟩ } := by
  have lowest : (accountSlots.find? fun b => (s.account? b).isNone) = some a :=
    (List.find?_ofFn_eq_some_of_injective Function.injective_id).mpr
      ⟨by simp [free], fun b hb => by simp [Option.isSome_iff_ne_none.mp (below b hb)]⟩
  rw [execOpenAccount, State.slotOfCode_fresh fresh, Option.isNone_none, require_true, ok_bind, lowest]
  exact serve_ok hopen

end OpenAccount

/-! ## Retire Account (R73, R152, R153) -/

theorem Account.unused_iff {r : Account} : r.unused = true ↔
    (∀ k : Band, r.band[k] = 0) ∧ r.energyAccrual = 0 ∧ r.fuelShare = 0 ∧ r.fuelAccrual = 0 := by
  have bands : r.band.toList.all (· == 0) = true ↔ ∀ k : Band, r.band[k] = 0 := by
    simp [Fin.forall_iff]
  rw [Account.unused]
  simp only [Bool.and_eq_true, bands, beq_iff_eq, and_assoc]

/-- A feeder's or a set's naming the account is what the last check of Retire Account looks for (R152). -/
theorem State.unnamed_iff {s : State} {a : AccountSlot} : (s.feedersNaming a == 0 && s.setsNaming a == 0) = true ↔
    ¬ ((∃ ch, (s.feeder ch).account = a) ∨ ∃ i q, s.set? i = some q ∧ q.idle = a) := by
  rw [Bool.and_eq_true, beq_iff_eq, beq_iff_eq]
  constructor
  · rintro ⟨feeders, sets⟩ (⟨ch, named⟩ | ⟨i, q, found, named⟩)
    · exact State.feedersNaming_eq_zero feeders ch named
    · exact State.setsNaming_eq_zero sets found named
  · intro unnamed
    refine ⟨List.countP_eq_zero.mpr fun f hf => ?_, List.countP_eq_zero.mpr fun x hx => ?_⟩
    · obtain ⟨k, hk, rfl⟩ := Vector.mem_iff_getElem.mp (Vector.mem_toList_iff.mp hf)
      exact fun named => unnamed (.inl ⟨⟨k, hk⟩, eq_of_beq named⟩)
    · obtain ⟨k, hk, rfl⟩ := Vector.mem_iff_getElem.mp (Vector.mem_toList_iff.mp hx)
      cases found : s.sets[k] with
      | none => simp
      | some q => exact fun named => unnamed (.inr ⟨⟨k, hk⟩, q, found, eq_of_beq named⟩)

section RetireAccount

variable {s : State} {b : Byte} (hopen : s.portOpen = true)
include hopen

theorem execRetireAccount_house (h : b.toNat = 0) : execRetireAccount b s = s.refused .range := by
  refine serve_refused hopen ?_
  rw [indexOperand_ok (i := (0 : AccountSlot)) h]
  rfl

variable {a : AccountSlot} {r : Account} (hb : b.toNat = a.val) (other : a ≠ 0) (opened : s.account? a = some r)
include hb other opened

omit hopen in
/-- Behind its operand Retire Account makes its four checks in order (R152). -/
theorem execRetireAccount_checks : execRetireAccount b s = serve s (
    if !r.hold then
      if r.statement.isNone then
        if r.unused then
          if s.feedersNaming a == 0 && s.setsNaming a == 0 then
            .ok ⟨.ok, byte a.val ++ be 4 r.code.toNat ++ byte (s.carriedAll a).length
                ++ be 4 (min max32 (s.carriedAll a).sum),
              ({ s with sets := s.sets.map (Option.map (·.dropAccount a)) } : State).putAccount a none⟩
          else .error .inUse
        else .error .unsettled
      else .error .pending
    else .error .held) := by
  have guest : (a.val != 0) = true := bne_iff_ne.mpr fun e => other (Fin.ext e)
  rw [execRetireAccount]
  simp only [indexOperand_ok hb, guest, openSlot_some opened, ok_bind, require_bind, if_true]

theorem execRetireAccount_held (held : r.hold = true) : execRetireAccount b s = s.refused .held := by
  rw [execRetireAccount_checks hb other opened]
  exact serve_refused hopen (by rw [held]; rfl)

variable (unheld : r.hold = false)
include unheld

theorem execRetireAccount_pending (settled : r.statement ≠ none) : execRetireAccount b s = s.refused .pending := by
  rw [execRetireAccount_checks hb other opened]
  have stands : r.statement.isNone = false := Option.isNone_eq_false_iff.mpr (Option.isSome_iff_ne_none.mpr settled)
  exact serve_refused hopen (by rw [unheld, stands]; rfl)

variable (released : r.statement = none)
include released

theorem execRetireAccount_unsettled (used : r.unused = false) : execRetireAccount b s = s.refused .unsettled := by
  rw [execRetireAccount_checks hb other opened]
  exact serve_refused hopen (by rw [unheld, released, used]; rfl)

variable (unused : r.unused = true)
include unused

theorem execRetireAccount_inUse (named : (s.feedersNaming a == 0 && s.setsNaming a == 0) = false) :
    execRetireAccount b s = s.refused .inUse := by
  rw [execRetireAccount_checks hb other opened]
  exact serve_refused hopen (by rw [unheld, released, unused, named]; rfl)

/-- With every check passed the account's entries join the overflows and its slot is free (R73, R153). -/
theorem execRetireAccount_frees (unnamed : (s.feedersNaming a == 0 && s.setsNaming a == 0) = true) :
    execRetireAccount b s = .next { s with
      sets := s.sets.map (Option.map (·.dropAccount a))
      accounts := s.accounts.set a none
      sdo := .low, result := ⟨.ok, be 1 a.val ++ be 4 r.code.toNat ++ be 1 (s.carriedAll a).length
        ++ be 4 (min 4294967295 (s.carriedAll a).sum)⟩ } := by
  rw [execRetireAccount_checks hb other opened, unheld, released, unused, unnamed]
  exact serve_ok hopen

end RetireAccount

/-- The amounts under an account, with a free slot's as those of no record. -/
theorem carriedUnder_eq (a : AccountSlot) (x : Option SetRec) :
    carriedUnder a x = (x.map fun q => (q.carried.filter fun p => p.1 == a).map (·.2)).getD [] := by
  cases x <;> rfl

/-- Settles O53: each outcome of the two commands is one of the equations above. -/
theorem accountsOpenAndRetire : Obligations.AccountsOpenAndRetire := by
  intro s hopen
  refine ⟨fun code label => ⟨execOpenAccount_exists hopen, execOpenAccount_full hopen,
    fun a fresh free below => execOpenAccount_opens hopen fresh free below⟩,
    fun b => execRetireAccount_house hopen, fun b a r hb other opened => ⟨execRetireAccount_held hopen hb other opened,
      execRetireAccount_pending hopen hb other opened, fun unheld released => ⟨fun used => ?unsettled,
        fun unused named => ?inUse, fun unused unnamed => ?frees⟩⟩⟩
  case unsettled =>
    exact execRetireAccount_unsettled hopen hb other opened unheld released
      (Bool.eq_false_of_not_eq_true (mt Account.unused_iff.mp used))
  case inUse =>
    exact execRetireAccount_inUse hopen hb other opened unheld released (Account.unused_iff.mpr unused)
      (Bool.eq_false_of_not_eq_true fun unnamed => State.unnamed_iff.mp unnamed named)
  case frees =>
    refine (execRetireAccount_frees hopen hb other opened unheld released (Account.unused_iff.mpr unused)
      (State.unnamed_iff.mpr unnamed)).trans ?_
    simp only [State.carriedAll, funext (carriedUnder_eq a)]
    rfl

end Sys2Proof.Machine
end

section
/-! The scan (R95 to R100): the reasons it writes, and the first eligible order it hands over. -/

namespace Sys2Proof.Machine

/-! ## The six tests of R97 -/

/-- The first of the six tests of R97 that an order for a hired set fails, SEQUENCER_BUSY the last of them. -/
def State.waits (s : State) (o : Order) (i : SetSlot) (r : SetRec) : Wait :=
  if s.clock.valid = false ∨ s.clock.minute < o.startMin then .notDue
  else if r.running = false then .notRunning
  else if r.conds.dry = true then .targetDry
  else if (r.rating : Int) * r.loadLimit - (s.committed i - s.demandOn i o.feeder) < (s.feeder o.feeder).demand then
    .noHeadroom
  else if r.runtime < s.params.minRuntime then .lowRuntime
  else .sequencerBusy

/-- The headroom of R96: the feeder's own demand is left out of the committed load. -/
theorem State.headroomFor_eq (s : State) (ch : Channel) (i : SetSlot) (r : SetRec) : s.headroomFor ch i r =
    (r.rating : Int) * r.loadLimit - (s.committed i - s.demandOn i ch) := by
  rw [State.headroomFor, State.headroom]
  push_cast
  ring

section Waits

variable {s : State} {o : Order} {i : SetSlot} {r : SetRec}
  (bound : (s.feeder o.feeder).bound.get o.target = some i) (hired : s.set? i = some r)
include bound hired

/-- Tests 1 to 5 of R97 in the order of the six. -/
theorem State.waitReason_eq_waits :
    s.waitReason o = if s.waits o i r = .sequencerBusy then none else some (s.waits o i r) := by
  have due : (!s.clock.valid || decide (s.clock.minute < o.startMin)) = true
      ↔ s.clock.valid = false ∨ s.clock.minute < o.startMin := by simp
  have stopped : (!r.running) = true ↔ r.running = false := by simp
  simp only [State.waitReason, State.boundSet, bound, hired, due, stopped, State.headroomFor_eq, State.waits]
  split_ifs <;> simp_all

theorem State.waitReason_eq_none_iff : s.waitReason o = none ↔ s.waits o i r = .sequencerBusy := by
  rw [State.waitReason_eq_waits bound hired]
  split <;> simp_all

/-- Within its window an order that stays is left with the first test it fails (R97, R99). -/
theorem State.leftWaiting_eq (inWindow : s.clock.minute < o.endMin) :
    s.leftWaiting o = { o with wait := s.waits o i r } := by
  rw [State.leftWaiting, State.waitReason_eq_waits bound hired]
  split_ifs with eligible
  · rw [eligible]
  · rfl

end Waits

/-! ## The orders a pass goes over -/

/-- An order that a scan hands over when it comes to it (R98, R100). -/
def State.handsOver (s : State) (o : Order) : Bool :=
  (s.waitReason o).isNone && decide (s.clock.minute < o.endMin) && s.canHandOver o.feeder

theorem State.canHandOver_iff {s : State} {ch : Channel} : s.canHandOver ch = true ↔
    s.transfer = none ∧ s.mode = .active ∧ s.pins.resetN = true ∧ (s.feeder ch).openCheck = none := by
  simp [State.canHandOver, and_assoc]

theorem State.handsOver_iff {s : State} {o : Order} : s.handsOver o = true ↔
    s.waitReason o = none ∧ s.clock.minute < o.endMin ∧ s.canHandOver o.feeder = true := by
  simp [State.handsOver, and_assoc]

theorem State.scanPass_cons (s : State) (o : Order) (rest : List Order) : s.scanPass false (o :: rest) =
    if s.handsOver o then (s.take o.feeder o.target).scanPass true rest
    else ((s.scanPass false rest).1, s.leftWaiting o :: (s.scanPass false rest).2) := rfl

/-- The orders in front of the one handed over get their reasons from the state as it stood (R98, R99). -/
theorem State.scanPass_append {s : State} {pre : List Order} (unready : ∀ p ∈ pre, s.handsOver p = false)
    (rest : List Order) : s.scanPass false (pre ++ rest) =
      ((s.scanPass false rest).1, pre.map s.leftWaiting ++ (s.scanPass false rest).2) := by
  induction pre with
  | nil => rfl
  | cons p pre ih =>
    obtain ⟨first, others⟩ := List.forall_mem_cons.mp unready
    rw [List.cons_append, State.scanPass_cons, first, ih others]
    rfl

/-- A scan that hands nothing over writes every order's reason. -/
theorem State.scan_unready {s : State} (unready : ∀ p ∈ s.queue, s.handsOver p = false) :
    s.scan = { s with queue := s.queue.map s.leftWaiting } := by
  have pass := State.scanPass_append unready []
  rw [List.append_nil] at pass
  rw [State.scan, pass]
  simp [State.scanPass]

/-- A scan that comes to an order it can hand over has the sequencer take it, and writes the other reasons. -/
theorem State.scan_handsOver {s : State} {pre post : List Order} {o : Order} (queue : s.queue = pre ++ o :: post)
    (unready : ∀ p ∈ pre, s.handsOver p = false) (ready : s.handsOver o = true) :
    s.scan = { s.take o.feeder o.target with
      queue := pre.map s.leftWaiting ++ post.map (s.take o.feeder o.target).leftWaiting } := by
  rw [State.scan, queue, State.scanPass_append unready, State.scanPass_cons, ready, if_pos rfl, State.scanPass_handed]

/-- Settles O44: no order can be handed over, so that each is left with its reason. -/
theorem aScanThatHandsNothingOverWritesWaitReasons : Obligations.AScanThatHandsNothingOverWritesWaitReasons := by
  intro s reason stuck inWindow named
  have unready : ∀ p ∈ s.queue, s.handsOver p = false := fun p hp => by
    rw [← Bool.not_eq_true, State.handsOver_iff, State.canHandOver_iff]
    rintro ⟨eligible, _, idle, active, high, checked⟩
    obtain ⟨i, r, bound, hired⟩ := named p hp
    rcases stuck with held | mode | low | checking
    · rw [idle] at held; cases held
    · exact mode active
    · rw [high] at low; cases low
    · exact checking p hp i r bound hired ((State.waitReason_eq_none_iff bound hired).mp eligible) checked
  rw [State.scan_unready unready]
  refine ⟨rfl, List.length_map _, fun k o i r place bound hired => ?_⟩
  have order : o ∈ s.queue := List.mem_of_getElem? place
  rw [List.getElem?_map, place, Option.map_some, State.leftWaiting_eq bound hired (inWindow o order)]
  rfl

/-! ## What a scan keeps -/

theorem KeepsOtherRecords.beginOpening (s : State) (t : Transfer) (d : Side) :
    KeepsOtherRecords s (s.beginOpening t d) := by
  refine .trans (.driveSide s t.feeder d false) ?_
  unfold State.beginOpening
  dsimp only
  split <;> exact .aside _ _ _ _ _ _

theorem KeepsOtherRecords.beginClosing (s : State) (t : Transfer) : KeepsOtherRecords s (s.beginClosing t) := by
  refine .trans (.driveSide s t.feeder t.target true) ?_
  unfold State.beginClosing
  dsimp only
  split
  · exact .endTransfer _ _ _ _ _ _ _
  · exact .aside _ _ _ _ _ _

theorem KeepsOtherRecords.take (s : State) (ch : Channel) (d : Side) : KeepsOtherRecords s (s.take ch d) := by
  have held (u : State) : KeepsOtherRecords u
      (u.putFeeder ch { u.feeder ch with state := .transfer, cause := .none, watch := ⟨none, none⟩ }) :=
    .putFeeder ⟨rfl, rfl, rfl, rfl, rfl, rfl⟩
  refine .trans (.flush s ch) (.trans (held _) ?_)
  unfold State.take
  dsimp only
  split
  · exact .beginOpening _ _ _
  · exact .beginClosing _ _

theorem KeepsOtherRecords.scan (s : State) : KeepsOtherRecords s s.scan := by
  have pass : KeepsOtherRecords s (s.scanPass false s.queue).1 := by
    rcases s.scanPass_cases s.queue with ⟨_, none_handed⟩ | ⟨_, o, _, _, _, _, handed⟩
    · rw [none_handed]; exact .refl s
    · rw [handed]; exact .take s o.feeder o.target
  exact pass.trans (.aside _ _ _ _ _ _)

/-- Settles O45: the pass up to the first order that can be handed over, and the frame of a scan. -/
theorem aScanHandsOverTheFirstEligibleOrder : Obligations.AScanHandsOverTheFirstEligibleOrder := by
  refine ⟨?handed, fun s => ⟨.scan s, ?port⟩⟩
  case handed =>
    intro s pre o post ready queue idle active high before now
    have same (p : Order) : s.handsOver p = true ↔ ready p := by
      rw [State.handsOver_iff, State.canHandOver_iff]
      simp only [idle, active, high, true_and]
      rfl
    have unready : ∀ p ∈ pre, s.handsOver p = false := fun p hp =>
      Bool.eq_false_of_not_eq_true (mt (same p).mp (before p hp))
    exact State.scan_handsOver queue unready ((same o).mpr now)
  case port =>
    have kept := (FeederWork.scan s).port
    simp only [State.port, Prod.mk.injEq] at kept
    obtain ⟨result, mask, staging, pins, straps⟩ := kept
    exact ⟨result, mask, staging, straps, pins⟩

end Sys2Proof.Machine
end

section
/-! Orders whose window has ended (R89, R90), and the clock's advances that take them out (R156, R168 to R170). -/

namespace Sys2Proof.Machine

/-! ## Orders that expire one after another (R89) -/

/-- A feeder's record with the expiry of its order noted (R89). -/
def State.expiredFeeder (s : State) (o : Order) : Feeder :=
  { s.feeder o.feeder with last := some ⟨o.target, .expired, .windowEnded, s.now⟩ }

theorem State.expireOne_eq (s : State) (o : Order) :
    s.expireOne o = (s.putFeeder o.feeder (s.expiredFeeder o)).raise .orderExpired := rfl

theorem State.now_expireOne (s : State) (o : Order) : (s.expireOne o).now = s.now := by
  rw [State.expireOne_eq, State.raise_eq]
  rfl

theorem State.feeder_expireOne_self (s : State) (o : Order) :
    (s.expireOne o).feeder o.feeder = s.expiredFeeder o := by
  rw [State.expireOne_eq, State.feeder_raise, State.feeder_putFeeder_self]

theorem State.feeder_expireOne_ne (s : State) {o : Order} {ch : Channel} (other : ch ≠ o.feeder) :
    (s.expireOne o).feeder ch = s.feeder ch := by
  rw [State.expireOne_eq, State.feeder_raise, State.feeder_putFeeder_ne _ _ other]

theorem Raises.expireOne (s : State) (o : Order) : Raises s (s.expireOne o) (· = .orderExpired) := by
  have noted : Raises s (s.putFeeder o.feeder (s.expiredFeeder o)) fun _ => False := .nothing rfl rfl rfl rfl
  exact (noted.trans (.raise _ .orderExpired)).congr fun f => by simp

theorem State.expireEach_eq (out : List Order) (s : State) : out.foldl State.expireOne s =
    { s with
      feeders := (out.foldl State.expireOne s).feeders, flags := (out.foldl State.expireOne s).flags
      snapshot := (out.foldl State.expireOne s).snapshot } := by
  induction out generalizing s with
  | nil => rfl
  | cons o rest ih =>
    rw [List.foldl_cons, ih, State.expireOne_eq, State.raise_eq]
    rfl

theorem State.feeder_expireEach_ne {out : List Order} {ch : Channel} (others : ∀ o ∈ out, o.feeder ≠ ch)
    (s : State) : (out.foldl State.expireOne s).feeder ch = s.feeder ch := by
  induction out generalizing s with
  | nil => rfl
  | cons o rest ih =>
    obtain ⟨first, later⟩ := List.forall_mem_cons.mp others
    rw [List.foldl_cons, ih later, State.feeder_expireOne_ne s first.symm]

/-- With one order for a feeder, no later expiry writes over its record. -/
theorem State.feeder_expireEach_self {out : List Order} (one : (out.map (·.feeder)).Nodup) {o : Order} (ho : o ∈ out)
    (s : State) : (out.foldl State.expireOne s).feeder o.feeder = s.expiredFeeder o := by
  induction out generalizing s with
  | nil => cases ho
  | cons p rest ih =>
    rw [List.map_cons, List.nodup_cons] at one
    obtain ⟨fresh, one⟩ := one
    have apart : ∀ q ∈ rest, q.feeder ≠ p.feeder := fun q hq same => fresh (same ▸ List.mem_map_of_mem hq)
    rw [List.foldl_cons]
    rcases List.mem_cons.mp ho with rfl | later
    · rw [State.feeder_expireEach_ne apart, State.feeder_expireOne_self]
    · rw [ih one later, State.expiredFeeder, State.feeder_expireOne_ne s (apart o later), State.now_expireOne]
      rfl

theorem Raises.expireEach (out : List Order) (s : State) :
    Raises s (out.foldl State.expireOne s) fun f => f = .orderExpired ∧ out ≠ [] := by
  induction out generalizing s with
  | nil => exact (nothing rfl rfl rfl rfl).congr (by simp)
  | cons o rest ih => exact ((expireOne s o).trans (ih _)).congr fun f => by simp +contextual

/-! ## The orders whose window has ended (R89, R90) -/

/-- The orders whose end minute has been reached. -/
def State.endedOrders (s : State) : List Order := s.queue.filter fun o => decide (o.endMin ≤ s.clock.minute)

/-- The state with the other orders alone in its queue. -/
def State.withoutEnded (s : State) : State :=
  { s with queue := s.queue.filter fun o => decide (s.clock.minute < o.endMin) }

theorem State.mem_endedOrders {s : State} {o : Order} :
    o ∈ s.endedOrders ↔ o ∈ s.queue ∧ o.endMin ≤ s.clock.minute := by
  rw [State.endedOrders, List.mem_filter, decide_eq_true_iff]

theorem State.expireOrders_eq (s : State) : s.expireOrders = s.endedOrders.foldl State.expireOne s.withoutEnded := by
  have stays (o : Order) : (!o.ended s.clock.minute) = decide (s.clock.minute < o.endMin) := by
    rw [Order.ended, ← decide_not, decide_eq_decide, Nat.not_le]
  rw [State.expireOrders, funext stays]
  rfl

theorem State.expireOrders_beside (s : State) : s.expireOrders = { s with
    queue := s.queue.filter fun o => decide (s.clock.minute < o.endMin), feeders := s.expireOrders.feeders
    flags := s.expireOrders.flags, snapshot := s.expireOrders.snapshot } := by
  rw [State.expireOrders_eq]
  exact State.expireEach_eq _ _

theorem State.feeder_expireOrders_self {s : State} (one : (s.queue.map (·.feeder)).Nodup) {o : Order}
    (ended : o ∈ s.endedOrders) : s.expireOrders.feeder o.feeder = s.expiredFeeder o := by
  have oneEnded : (s.endedOrders.map (·.feeder)).Nodup := one.sublist (List.filter_sublist.map _)
  rw [State.expireOrders_eq, State.feeder_expireEach_self oneEnded ended]
  rfl

theorem State.feeder_expireOrders_ne {s : State} {ch : Channel} (others : ∀ o ∈ s.endedOrders, o.feeder ≠ ch) :
    s.expireOrders.feeder ch = s.feeder ch := by
  rw [State.expireOrders_eq, State.feeder_expireEach_ne others]
  rfl

theorem Raises.expireOrders (s : State) :
    Raises s s.expireOrders fun f => f = .orderExpired ∧ s.endedOrders ≠ [] := by
  have left : Raises s s.withoutEnded fun _ => False := .nothing rfl rfl rfl rfl
  rw [State.expireOrders_eq]
  exact (left.trans (.expireEach _ _)).congr fun f => by simp

/-- Settles O19, from what the expiry makes of each part of the state. -/
theorem endedOrdersExpire : Obligations.EndedOrdersExpire := by
  intro s valid one t
  have frame : t = _ := s.expireOrders_beside
  refine ⟨congrArg State.queue frame, fun o ho ended => ?recorded, fun ch others => ?others, fun f => ?flags, ?frame⟩
  case recorded =>
    rw [State.feeder_expireOrders_self one (State.mem_endedOrders.mpr ⟨ho, ended⟩), State.expiredFeeder, State.now,
      valid, if_pos rfl]
  case others =>
    refine State.feeder_expireOrders_ne fun o ho => ?_
    obtain ⟨queued, ended⟩ := State.mem_endedOrders.mp ho
    exact others o queued ended
  case flags =>
    have any : s.endedOrders ≠ [] ↔ (s.queue.any fun o => decide (o.endMin ≤ s.clock.minute)) = true := by
      simp [State.endedOrders]
    have raised := (Raises.expireOrders s).congr fun g => and_congr_right fun _ => any
    rw [raised.getLsbD_flags f, Bool.decide_and, Bool.decide_eq_true]
  case frame =>
    rw [show t.queue = _ from congrArg State.queue frame]
    exact frame

/-! ## The clock (R156, R168 to R170) -/

section SetClock

variable {s : State} {m : BitVec 24} (hopen : s.portOpen = true)
include hopen

theorem execSetClock_range (beyond : 1048575 < m.toNat) : execSetClock m s = s.refused .range := by
  refine serve_refused hopen ?_
  dsimp only
  rw [decide_eq_false (show ¬ m.toNat ≤ lastMinute from Nat.not_le.mpr beyond), require_false, error_bind]

/-- The clock is set, the tariff made live, the ended orders expired and the queue scanned, in that order (R170). -/
theorem execSetClock_sets (within : m.toNat ≤ 1048575) : execSetClock m s =
    let set : State := { s with clock := ⟨true, m.toNat, 0, 0⟩, tariff := s.tariff.apply }
    .next { (set.endedOrders.foldl State.expireOne set.withoutEnded).scan with
      sdo := .low, result := ⟨.ok, be 3 m.toNat ++ be 1 (m.toNat / 60 % 24) ++ be 1 set.bandInForce.val
        ++ be 1 s.tariff.waitingCount ++ be 1 set.endedOrders.length⟩ } := by
  have passes : decide (m.toNat ≤ lastMinute) = true := decide_eq_true within
  rw [execSetClock]
  simp only [passes, require_true, ok_bind, State.expireOrders_eq, List.countP_eq_length_filter]
  exact serve_ok hopen

end SetClock

/-- Settles O17: the two outcomes of Set Clock. -/
theorem setClockMovesTheMinute : Obligations.SetClockMovesTheMinute := by
  refine fun s m hopen => ⟨execSetClock_range hopen, fun within => ?_⟩
  intro live tariff set gone kept items
  have count : s.tariff.waitingCount = items := by
    simp only [Tariff.waitingCount, List.countP_eq_length_filter]
    rfl
  refine (execSetClock_sets hopen within).trans ?_
  rw [count]
  rfl

/-! ## The second advance (R168, R169) -/

section SecondAdvance

variable {s : State} (valid : s.clock.valid = true)
include valid

theorem State.secondAdvance_second (second : s.clock.second < 59) :
    s.secondAdvance = { s with clock := ⟨true, s.clock.minute, s.clock.second + 1, 0⟩ } := by
  simp only [State.secondAdvance, if_pos second, valid]

theorem State.secondAdvance_holds (second : 59 ≤ s.clock.second) (last : 1048575 ≤ s.clock.minute) :
    s.secondAdvance = { s with clock := ⟨true, s.clock.minute, 0, 0⟩ } := by
  have holds : ¬ s.clock.minute < lastMinute := Nat.not_lt.mpr last
  simp only [State.secondAdvance, if_neg (Nat.not_lt.mpr second), if_neg holds, valid]

/-- A minute advance: the tariff at an hour boundary, then the ended orders, then the scan (R169). -/
theorem State.secondAdvance_minute (second : 59 ≤ s.clock.second) (more : s.clock.minute < 1048575) :
    s.secondAdvance =
      let next : State := { s with
        clock := ⟨true, s.clock.minute + 1, 0, 0⟩
        tariff := if (s.clock.minute + 1) % 60 = 0 then s.tariff.apply else s.tariff }
      (next.endedOrders.foldl State.expireOne next.withoutEnded).scan := by
  have advances : s.clock.minute < lastMinute := more
  simp only [State.secondAdvance, if_neg (Nat.not_lt.mpr second), if_pos advances, State.minuteAdvance,
    ← State.expireOrders_eq, valid]
  split <;> rfl

end SecondAdvance

theorem exec_siteSecondAdvance (s : State) :
    exec .siteSecondAdvance s = .next (if s.secondDue then s.secondAdvance else s) := rfl

/-- Settles O18, by whether the advance is due, the second and the minute. -/
theorem secondsAndMinutesAdvance : Obligations.SecondsAndMinutesAdvance := by
  refine ⟨fun s valid passed => ?due, fun s early => ?undue⟩
  case due =>
    have advances : exec .siteSecondAdvance s = .next s.secondAdvance := by
      rw [exec_siteSecondAdvance, if_pos (s.secondDue_iff.mpr ⟨valid, passed⟩)]
    rw [advances]
    exact ⟨fun second => congrArg _ (State.secondAdvance_second valid second),
      fun second last => congrArg _ (State.secondAdvance_holds valid second last),
      fun second more => congrArg _ (State.secondAdvance_minute valid second more)⟩
  case undue =>
    have undue : ¬ s.secondDue = true := by
      rw [State.secondDue_iff, not_and_or, Bool.not_eq_true, Nat.not_le]
      exact early
    rw [exec_siteSecondAdvance, if_neg undue]

end Sys2Proof.Machine
end

section
/-! Orders that join the queue and leave it: relief generation (R92, R93), Enqueue Order (R84, R86, R87) and
Cancel Order (R88). -/

namespace Sys2Proof.Machine

/-! ## Relief generation (R92, R93) -/

/-- The side a qualifying feeder is moved to: it is ON a side bound to the set, its other side bound to the
relief set (R92). -/
def State.reliefSide (s : State) (i r : SetSlot) (ch : Channel) : Option Side :=
  match (s.feeder ch).state with
  | .on d =>
    if (s.feeder ch).bound.get d = some i ∧ (s.feeder ch).bound.get d.other = some r then some d.other else none
  | _ => none

/-- The feeders that want a relief order and have no order yet, in channel order. -/
def State.wantingRelief (s : State) (i r : SetSlot) : List Channel :=
  channels.filter fun ch => s.active ch && (s.reliefSide i r ch).isSome && s.queue.all fun o => o.feeder != ch

theorem State.qualifies_eq (s : State) (i r : SetSlot) (ch : Channel) :
    s.qualifies i r ch = (s.active ch && (s.reliefSide i r ch).isSome) := by
  unfold State.qualifies State.reliefSide
  cases (s.feeder ch).state with
  | on d =>
    congr 1
    dsimp only
    split <;> simp_all
  | _ => rfl

theorem State.orderFor_isNone (s : State) (ch : Channel) :
    (s.orderFor ch).isNone = s.queue.all fun o => o.feeder != ch := by
  rw [Bool.eq_iff_iff, Option.isNone_iff_eq_none, State.orderFor_eq_none]
  simp

/-- A relief order targets the side that is bound to the relief set (R93). -/
theorem State.reliefOrder_eq {s : State} {i r : SetSlot} {ch : Channel} (wants : (s.reliefSide i r ch).isSome = true)
    (window : Nat) : s.reliefOrder ch window = ⟨ch, (s.reliefSide i r ch).getD .A, s.clock.minute,
      min (s.clock.minute + window) 1048575, .relief, .notDue⟩ := by
  unfold State.reliefOrder State.reliefSide at *
  cases state : (s.feeder ch).state with
  | on d =>
    rw [state] at wants
    dsimp only at wants ⊢
    split at wants
    · rename_i both
      rw [if_pos both]
      rfl
    · cases wants
  | _ => rw [state] at wants; cases wants

/-- The queue with a relief order for each of some feeders. -/
def State.queueWithRelief (s : State) (window : Nat) (l : List Channel) : List Order :=
  l.foldl (fun q ch => insertOrder (s.reliefOrder ch window) q) s.queue

/-- Orders are placed until the queue holds 8; the first left out is dropped (R93). -/
theorem State.placeRelief_eq_relieved {s : State} (more : s.clock.minute ≠ 1048575) (window : Nat)
    (l : List Channel) : s.placeRelief window l = s.relieved (s.queueWithRelief window (l.take (8 - s.queue.length)))
      (decide (8 - s.queue.length < l.length)) := by
  induction l generalizing s with
  | nil => rw [List.take_nil]; rfl
  | cons ch rest ih =>
    have notLast : (s.clock.minute == lastMinute) = false := beq_false_of_ne more
    rw [State.placeRelief, notLast, Bool.or_false]
    by_cases full : 8 ≤ s.queue.length
    · have noRoom : 8 - s.queue.length = 0 := Nat.sub_eq_zero_of_le full
      rw [if_pos (decide_eq_true full), noRoom]
      rfl
    · have grown : (insertOrder (s.reliefOrder ch window) s.queue).length = s.queue.length + 1 :=
        (insertOrder_perm _ _).length_eq
      have room : 8 - s.queue.length = 8 - (s.queue.length + 1) + 1 := by omega
      have next := ih (s := { s with queue := insertOrder (s.reliefOrder ch window) s.queue }) more
      rw [grown] at next
      rw [if_neg (by simpa using full), next, room, List.take_succ_cons, List.length_cons]
      simp only [Nat.add_lt_add_iff_right]
      rfl

theorem State.placeRelief_last {s : State} (last : s.clock.minute = 1048575) (window : Nat) (l : List Channel) :
    s.placeRelief window l = if l = [] then s else s.raise .reliefDropped := by
  cases l with
  | nil => rfl
  | cons ch rest =>
    have atLast : (s.clock.minute == lastMinute) = true := beq_iff_eq.mpr last
    rw [State.placeRelief, atLast, Bool.or_true, if_pos rfl, if_neg (List.cons_ne_nil _ _)]

theorem State.generateRelief_some (s : State) (i r : SetSlot) (window : Nat) :
    s.generateRelief i (some r) window = if s.clock.valid then s.placeRelief window (s.wantingRelief i r)
      else s.raiseIf (!(s.wantingRelief i r).isEmpty) .reliefDropped := by
  simp only [State.generateRelief, State.qualifies_eq, State.orderFor_isNone, State.wantingRelief]

/-- Settles O42, by the clock and the minute. -/
theorem reliefOrdersAreGenerated : Obligations.ReliefOrdersAreGenerated := by
  intro s i rel window other wanting order placed t
  have wants : s.wantingRelief i rel = wanting := rfl
  refine ⟨rfl, fun invalid => ?invalid, fun valid last => ?last, fun valid more => ?places⟩
  case invalid =>
    rw [State.generateRelief_some, invalid, wants]
    cases wanting <;> rfl
  case last => rw [State.generateRelief_some, if_pos valid, State.placeRelief_last last, wants]
  case places =>
    have queue : s.queueWithRelief window placed = t.queue := List.foldl_ext _ _ _ fun q ch hch => by
      have wants : (s.active ch && (s.reliefSide i rel ch).isSome && s.queue.all fun o => o.feeder != ch) = true :=
        (List.mem_filter.mp (List.mem_of_mem_take hch)).2
      rw [Bool.and_eq_true, Bool.and_eq_true] at wants
      obtain ⟨⟨_, side⟩, _⟩ := wants
      rw [State.reliefOrder_eq side]
      rfl
    rw [State.generateRelief_some, if_pos valid, State.placeRelief_eq_relieved more, wants]
    have relieved : s.relieved (s.queueWithRelief window placed) (decide (8 - s.queue.length < wanting.length))
        = t.raiseIf (decide (8 - s.queue.length < wanting.length)) .reliefDropped := by rw [queue]; rfl
    refine relieved.trans ?_
    by_cases fits : wanting.length ≤ 8 - s.queue.length
    · rw [if_pos fits, decide_eq_false (Nat.not_lt.mpr fits), State.raiseIf_false]
    · rw [if_neg fits, decide_eq_true (Nat.not_le.mp fits), State.raiseIf_true]

/-! ## An order's place (R84) -/

theorem insertOrder_place {q : List Order} (o : Order) (h : q.Pairwise fun x y => x.startMin ≤ y.startMin) :
    ∃ pre post, q = pre ++ post ∧ insertOrder o q = pre ++ o :: post
      ∧ (∀ p ∈ pre, p.startMin ≤ o.startMin) ∧ ∀ p ∈ post, o.startMin < p.startMin := by
  induction q with
  | nil => exact ⟨[], [], rfl, rfl, by simp, by simp⟩
  | cons p rest ih =>
    obtain ⟨first, rising⟩ := List.pairwise_cons.mp h
    rw [insertOrder]
    split
    · rename_i before
      obtain ⟨pre, post, parts, placed, front, behind⟩ := ih rising
      refine ⟨p :: pre, post, congrArg (p :: ·) parts, congrArg (p :: ·) placed, ?_, behind⟩
      exact List.forall_mem_cons.mpr ⟨before, front⟩
    · rename_i behind
      have behind : o.startMin < p.startMin := Nat.not_le.mp behind
      refine ⟨[], p :: rest, rfl, rfl, by simp, List.forall_mem_cons.mpr ⟨behind, fun r hr => ?_⟩⟩
      exact Nat.lt_of_lt_of_le behind (first r hr)

/-! ## Enqueue Order (R86, R87) -/

/-- A feeder's state bars an order for a side (R86, checks 4 to 6). -/
abbrev Feeder.barsOrder (f : Feeder) (d : Side) : Prop :=
  f.state = .fault ∨ f.state = .transfer ∨ f.bound.get d = none ∨ f.state = .on d

/-- Checks with one status are one check (R3). -/
theorem require_require_bind {α : Type} (a b : Bool) (st : Status) (f : Unit → Except Status α) :
    (require a st >>= fun _ => require b st >>= f) = (require (a && b) st >>= f) := by
  cases a <;> rfl

theorem Feeder.orderChecks_iff {f : Feeder} {d : Side} :
    ((f.state != .fault && f.state != .transfer) && ((f.bound.get d).isSome && f.closedSide != some d)) = true
      ↔ ¬ f.barsOrder d := by
  simp only [Bool.and_eq_true, bne_iff_ne, Feeder.barsOrder, not_or, ne_eq, Feeder.closedSide_eq_some,
    Option.isSome_iff_ne_none, and_assoc]

theorem State.unordered_iff {s : State} {ch : Channel} :
    (s.orderFor ch).isNone = true ↔ ¬ ∃ o ∈ s.queue, o.feeder = ch := by
  rw [Option.isNone_iff_eq_none, State.orderFor_eq_none]
  simp

/-- The answer of Enqueue Order, figure by figure (R87, R193). -/
theorem State.enqueueBytes_eq (t : State) (ch : Channel) (d : Side) : t.enqueueBytes ch d =
    be 1 ch.val ++ be 1 (sideCode (some d)) ++
      (match t.queue.find? (·.feeder == ch) with
       | some o => be 1 0 ++ be 1 (t.queue.findIdx (·.feeder == ch)) ++ be 1 o.wait.code
       | none => be 1 1 ++ be 1 255 ++ be 1 255)
      ++ be 1 t.queue.length := by
  unfold State.enqueueBytes State.orderFor
  cases t.queue.find? (·.feeder == ch) <;> rfl

/-- The order that Enqueue Order places (R87). -/
def operatorOrder (ch : Channel) (d : Side) (m n : BitVec 24) : Order :=
  ⟨ch, d, m.toNat, n.toNat, .operator, .notDue⟩

/-- Behind its operands Enqueue Order makes its checks in order (R86). -/
theorem execEnqueueOrder_checks {s : State} {cb db : Byte} {m n : BitVec 24} {ch : Channel} {d : Side}
    (hcb : cb.toNat = ch.val) (hdb : db.toNat = sideCode (some d)) : execEnqueueOrder cb db m n s = serve s (
      if m.toNat ≤ 1048575 ∧ n.toNat ≤ 1048575 then
        if s.clock.valid then
          if s.active ch then
            if ¬ (s.feeder ch).barsOrder d then
              if m.toNat + 2 ≤ n.toNat ∧ s.clock.minute < n.toNat then
                if ¬ ∃ o ∈ s.queue, o.feeder = ch then
                  if s.queue.length < 8 then
                    let t := ({ s with queue := insertOrder (operatorOrder ch d m n) s.queue } : State).scan
                    .ok ⟨.ok, t.enqueueBytes ch d, t⟩
                  else .error .full
                else .error .exists
              else .error .range
            else .error .state
          else .error .noRecord
        else .error .noClock
      else .error .range) := by
  rw [execEnqueueOrder]
  simp only [indexOperand_ok hcb, sideOperand_ok hdb, ok_bind, require_require_bind]
  simp only [require_bind, Feeder.orderChecks_iff, State.unordered_iff]
  simp only [Bool.and_eq_true, decide_eq_true_iff]
  rfl

section EnqueueOrder

variable {s : State} {cb db : Byte} {m n : BitVec 24} {ch : Channel} {d : Side} (hopen : s.portOpen = true)
  (hcb : cb.toNat = ch.val) (hdb : db.toNat = sideCode (some d))
include hopen hcb hdb

theorem execEnqueueOrder_minutes (h : 1048575 < m.toNat ∨ 1048575 < n.toNat) :
    execEnqueueOrder cb db m n s = s.refused .range := by
  have beyond : ¬ (m.toNat ≤ 1048575 ∧ n.toNat ≤ 1048575) := by omega
  rw [execEnqueueOrder_checks hcb hdb, if_neg beyond]
  exact serve_refused hopen rfl

variable (hm : m.toNat ≤ 1048575) (hn : n.toNat ≤ 1048575)
include hm hn

theorem execEnqueueOrder_noClock (invalid : s.clock.valid = false) :
    execEnqueueOrder cb db m n s = s.refused .noClock := by
  rw [execEnqueueOrder_checks hcb hdb, if_pos ⟨hm, hn⟩, invalid]
  exact serve_refused hopen rfl

variable (valid : s.clock.valid = true)
include valid

theorem execEnqueueOrder_inactive (inactive : s.active ch = false) :
    execEnqueueOrder cb db m n s = s.refused .noRecord := by
  rw [execEnqueueOrder_checks hcb hdb, if_pos ⟨hm, hn⟩, if_pos valid, inactive]
  exact serve_refused hopen rfl

variable (active : s.active ch = true)
include active

theorem execEnqueueOrder_barred (barred : (s.feeder ch).barsOrder d) :
    execEnqueueOrder cb db m n s = s.refused .state := by
  rw [execEnqueueOrder_checks hcb hdb, if_pos ⟨hm, hn⟩, if_pos valid, if_pos active, if_neg (not_not_intro barred)]
  exact serve_refused hopen rfl

variable (free : ¬ (s.feeder ch).barsOrder d)
include free

theorem execEnqueueOrder_window (closed : ¬ (m.toNat + 2 ≤ n.toNat ∧ s.clock.minute < n.toNat)) :
    execEnqueueOrder cb db m n s = s.refused .range := by
  rw [execEnqueueOrder_checks hcb hdb, if_pos ⟨hm, hn⟩, if_pos valid, if_pos active, if_pos free, if_neg closed]
  exact serve_refused hopen rfl

variable (window : m.toNat + 2 ≤ n.toNat ∧ s.clock.minute < n.toNat)
include window

theorem execEnqueueOrder_exists (has : ∃ o ∈ s.queue, o.feeder = ch) :
    execEnqueueOrder cb db m n s = s.refused .exists := by
  rw [execEnqueueOrder_checks hcb hdb, if_pos ⟨hm, hn⟩, if_pos valid, if_pos active, if_pos free, if_pos window,
    if_neg (not_not_intro has)]
  exact serve_refused hopen rfl

variable (unordered : ¬ ∃ o ∈ s.queue, o.feeder = ch)
include unordered

theorem execEnqueueOrder_full (full : 8 ≤ s.queue.length) : execEnqueueOrder cb db m n s = s.refused .full := by
  rw [execEnqueueOrder_checks hcb hdb, if_pos ⟨hm, hn⟩, if_pos valid, if_pos active, if_pos free, if_pos window,
    if_pos unordered, if_neg (Nat.not_lt.mpr full)]
  exact serve_refused hopen rfl

/-- The order takes its place and the queue scans (R87). -/
theorem execEnqueueOrder_joins (room : s.queue.length < 8) : execEnqueueOrder cb db m n s =
    let t := ({ s with queue := insertOrder (operatorOrder ch d m n) s.queue } : State).scan
    .next { t with sdo := .low, result := ⟨.ok, t.enqueueBytes ch d⟩ } := by
  rw [execEnqueueOrder_checks hcb hdb, if_pos ⟨hm, hn⟩, if_pos valid, if_pos active, if_pos free, if_pos window,
    if_pos unordered, if_pos room]
  exact serve_ok hopen

end EnqueueOrder

/-! ## Cancel Order (R88) -/

section CancelOrder

variable {s : State} {cb : Byte} {ch : Channel} (hopen : s.portOpen = true) (hcb : cb.toNat = ch.val)
  (active : s.active ch = true)
include hopen hcb active

/-- An order that the sequencer has taken is not cancelled (R88). -/
theorem execCancelOrder_held (held : s.transfer.map (·.feeder) = some ch) :
    execCancelOrder cb s = s.refused .state := by
  refine serve_refused hopen ?_
  rw [channelOperand_ok hcb active, ok_bind, held, bne_self_eq_false, require_false, error_bind]

variable (apart : s.transfer.map (·.feeder) ≠ some ch)
include apart

theorem execCancelOrder_none (unordered : ∀ o ∈ s.queue, o.feeder ≠ ch) :
    execCancelOrder cb s = s.refused .noRecord := by
  refine serve_refused hopen ?_
  rw [channelOperand_ok hcb active, ok_bind, bne_iff_ne.mpr apart, require_true, ok_bind,
    State.orderFor_eq_none.mpr unordered]

/-- The order leaves the queue, and its feeder records why (R88). -/
theorem execCancelOrder_takes {o : Order} (order : s.orderFor ch = some o) : execCancelOrder cb s =
    let t := s.removeOrder ch .cancelled .hostCancel
    .next { t with
      sdo := .low, result := ⟨.ok, be 1 ch.val ++ be 1 o.origin.code ++ be 1 (sideCode (some o.target))
        ++ be 1 t.queue.length⟩ } := by
  rw [execCancelOrder, channelOperand_ok hcb active, ok_bind, bne_iff_ne.mpr apart, require_true, ok_bind, order]
  exact serve_ok hopen

end CancelOrder

/-- The removal of the one order of a feeder, by its place in the queue (R88). -/
theorem State.removeOrder_place {s : State} {ch : Channel} {pre post : List Order} {o : Order}
    (queue : s.queue = pre ++ o :: post) (own : o.feeder = ch) (others : ∀ p ∈ pre ++ post, p.feeder ≠ ch)
    (out : TransferOutcome) (why : Reason) : s.orderFor ch = some o ∧ s.removeOrder ch out why = { s with
      queue := pre ++ post
      feeders := s.feeders.set ch { s.feeder ch with last := some ⟨o.target, out, why, s.now⟩ } } := by
  have order : s.orderFor ch = some o := by
    rw [State.orderFor, queue, List.find?_eq_some_iff_append]
    refine ⟨beq_iff_eq.mpr own, pre, post, rfl, fun p hp => ?_⟩
    simpa using others p (List.mem_append_left _ hp)
  have left : s.queue.filter (·.feeder != ch) = pre ++ post := by
    have stay (p : Order) (hp : p ∈ pre ++ post) : (p.feeder != ch) = true := bne_iff_ne.mpr (others p hp)
    rw [queue, List.filter_append, List.filter_cons_of_neg (by simp [own]), ← List.filter_append,
      List.filter_eq_self.mpr stay]
  refine ⟨order, ?_⟩
  rw [State.removeOrder_eq, left, State.lastAfter, order]

/-- Settles O43: an order's place, and each outcome of the two commands. -/
theorem ordersJoinInTheirPlaceAndAreCancelled : Obligations.OrdersJoinInTheirPlaceAndAreCancelled := by
  refine ⟨fun o q rising => insertOrder_place o rising, fun s cb db m n ch d hopen hcb hdb => ?enqueue,
    fun s cb ch hopen hcb active => ?cancel⟩
  case enqueue =>
    refine ⟨execEnqueueOrder_minutes hopen hcb hdb, fun hm hn => ⟨execEnqueueOrder_noClock hopen hcb hdb hm hn,
      execEnqueueOrder_inactive hopen hcb hdb hm hn, fun valid active =>
      ⟨execEnqueueOrder_barred hopen hcb hdb hm hn valid active,
        execEnqueueOrder_window hopen hcb hdb hm hn valid active,
        execEnqueueOrder_exists hopen hcb hdb hm hn valid active,
        execEnqueueOrder_full hopen hcb hdb hm hn valid active, fun free window unordered room => ?_⟩⟩⟩
    have joins := execEnqueueOrder_joins hopen hcb hdb hm hn valid active free window unordered room
    simp only [State.enqueueBytes_eq] at joins
    exact joins
  case cancel =>
    refine ⟨execCancelOrder_held hopen hcb active, execCancelOrder_none hopen hcb active,
      fun pre o post apart queue own others => ?_⟩
    obtain ⟨order, removed⟩ := State.removeOrder_place queue own others .cancelled .hostCancel
    have takes := execCancelOrder_takes hopen hcb active apart order
    have origin : o.origin.code = if o.origin = .relief then 1 else 0 := by cases o.origin <;> rfl
    rw [removed, origin] at takes
    rw [← List.length_append]
    exact takes

end Sys2Proof.Machine
end

section
/-! The transfer sequencer: how a phase begins, what the take begins (R105, R107, R109, R111), and what the
deadline of each phase does (R108 to R112, R114, R119). -/

namespace Sys2Proof.Machine

/-! ## Drives -/

theorem State.driveSide_putFeeder (s : State) (ch : Channel) (f : Feeder) (d : Side) (closed : Bool) :
    (s.putFeeder ch f).driveSide ch d closed = s.putFeeder ch { f with drive := f.drive.set d closed } := by
  rw [State.driveSide, State.feeder_putFeeder_self, State.putFeeder_putFeeder]

/-! ## How a phase begins -/

/-- OPENING drives the old side open, and is DEAD at once if that contact reads open already (R107, R109). -/
theorem State.beginOpening_eq (s : State) (t : Transfer) (a : Side) : s.beginOpening t a =
    { s.driveSide t.feeder a false with
      transfer := some (if s.fbClosed t.feeder a then
          { t with phase := .opening, deadline := s.params.openTimeout }
        else { t with phase := .dead, deadline := t.deadTime * 1000 }) } := by
  change (if s.fbClosed t.feeder a then _ else _) = _
  cases s.fbClosed t.feeder a <;> rfl

/-- CLOSING drives the target side closed, and ends DONE at once if that contact reads closed already
(R106, R110, R111). -/
theorem State.beginClosing_eq (s : State) (t : Transfer) :
    let u := s.driveSide t.feeder t.target true
    let g : Transfer := { t with phase := .closing, releasing := false, deadline := s.params.closeTimeout }
    s.beginClosing t = if s.fbClosed t.feeder t.target then
        u.endTransfer g (.on t.target) .none .done .none [.transferDone]
      else { u with transfer := some g } := rfl

/-- FALLBACK drives the target side open and the old side closed, and ends at once if both contacts read so
already (R106, R112). -/
theorem State.beginFallback_eq (s : State) (t : Transfer) (a : Side) (why : FallbackReason) :
    let u := s.putFeeder t.feeder { s.feeder t.feeder with
      drive := ((s.feeder t.feeder).drive.set t.target false).set a true }
    let g : Transfer := { t with phase := .fallback, fallback := some why, deadline := s.params.closeTimeout }
    s.beginFallback t a why =
      if s.fbClosed t.feeder a = true ∧ s.fbClosed t.feeder t.target = false then
        u.endTransfer g (.on a) .none .failed why.reason [.transferFailed]
      else { u with transfer := some g } := by
  have driven : (s.driveSide t.feeder t.target false).driveSide t.feeder a true = s.putFeeder t.feeder
      { s.feeder t.feeder with drive := ((s.feeder t.feeder).drive.set t.target false).set a true } :=
    s.driveSide_putFeeder t.feeder _ a true
  unfold State.beginFallback
  rw [driven]
  refine if_congr ?_ rfl rfl
  rw [State.fallbackProven, Bool.and_eq_true, Bool.not_eq_true']
  rfl

/-- A change to closed that comes at the same moment waits in the queue (R114). -/
theorem State.comesClosed_iff (s : State) (ch : Channel) (d : Side) :
    s.comesClosed ch d = true ↔ .feedbackChange ch d (!s.straps.fbLow) ∈ s.pending :=
  List.contains_iff_mem

/-- The releasing part drives the target side open, and ends at once if that contact reads open and no change
to closed comes at the same moment (R111, R114). -/
theorem State.beginReleasing_eq (s : State) (t : Transfer) :
    let u := s.driveSide t.feeder t.target false
    let g : Transfer := { t with releasing := true, deadline := s.params.openTimeout }
    s.beginReleasing t =
      if s.fbClosed t.feeder t.target = true ∨ .feedbackChange t.feeder t.target (!s.straps.fbLow) ∈ s.pending then
        { u with transfer := some g }
      else u.endTransfer g .dark .none .failed .closeTimeout [.transferFailed] := by
  refine if_congr ?_ rfl rfl
  rw [Bool.or_eq_true, State.comesClosed_iff]
  rfl

/-! ## The take -/

theorem State.fbClosed_flush (s : State) (ch c : Channel) (d : Side) :
    (s.flush ch).fbClosed c d = s.fbClosed c d := by
  rw [State.flush_eq]
  rfl

/-- The feeder's record as the take leaves it before the first phase: in TRANSFER and no longer watched (R105). -/
def State.takenFeeder (s : State) (ch : Channel) : Feeder :=
  { (s.flush ch).feeder ch with state := .transfer, cause := .none, watch := ⟨none, none⟩ }

/-- From ON the take begins OPENING of the side that is closed (R105, R107). -/
theorem State.take_on {s : State} {ch : Channel} {a : Side} (on : (s.feeder ch).state = .on a) (d : Side) :
    s.take ch d = ((s.flush ch).putFeeder ch (s.takenFeeder ch)).beginOpening
      ⟨ch, some a, d, (s.feeder ch).deadTime, .opening, false, none, 0, 0⟩ a := by
  have side : (s.feeder ch).closedSide = some a := Feeder.closedSide_eq_some.mpr on
  simp only [State.take, Feeder.takenTransfer, side]
  rfl

/-- From DARK the take begins CLOSING of the target side (R105, R111). -/
theorem State.take_dark {s : State} {ch : Channel} (dark : (s.feeder ch).state = .dark) (d : Side) :
    s.take ch d = ((s.flush ch).putFeeder ch (s.takenFeeder ch)).beginClosing
      ⟨ch, none, d, (s.feeder ch).deadTime, .opening, false, none, 0, 0⟩ := by
  have side : (s.feeder ch).closedSide = none := by rw [Feeder.closedSide, dark]
  simp only [State.take, Feeder.takenTransfer, side]
  rfl

/-- A feeder that is DARK is energised from no set, so a flush moves nothing (R47, R53). -/
theorem State.flush_dark {s : State} {ch : Channel} (dark : (s.feeder ch).state = .dark) : s.flush ch = s :=
  State.flush_idle (.inl (by rw [Feeder.energisedSet, dark]))

/-- Settles O46: the flush keeps the feeder's state and dead time, and the first phase is the one R105 names. -/
theorem theTakeBeginsOpenTransition : Obligations.TheTakeBeginsOpenTransition := by
  intro s ch d u f held
  have state : f.state = (s.feeder ch).state := (congrArg Feeder.state (s.flush_feeder ch) :)
  have deadTime : f.deadTime = (s.feeder ch).deadTime := (congrArg Feeder.deadTime (s.flush_feeder ch) :)
  have params : u.params = s.params := (KeepsOtherRecords.flush s ch).params
  refine ⟨fun a on => ?on, fun dark => ?dark⟩
  case on =>
    rw [State.take_on (state ▸ on) d, State.beginOpening_eq, State.driveSide_putFeeder, State.fbClosed_putFeeder,
      State.fbClosed_flush, State.putFeeder_params, params, deadTime]
    rfl
  case dark =>
    have dark : (s.feeder ch).state = .dark := state ▸ dark
    have same : u = s := State.flush_dark dark
    refine ⟨same, ?_⟩
    rw [State.take_dark dark d, State.beginClosing_eq, State.driveSide_putFeeder, State.fbClosed_putFeeder,
      State.fbClosed_flush, State.putFeeder_params, params, deadTime]
    rfl

/-! ## A deadline that does not happen (R106, R114, R119) -/

/-- The deadlines of the phases. -/
def phaseDeadlines : List Instr := [.openTimeout, .deadTimeExpiry, .closeTimeout, .releaseDeadline, .fallbackTimeout]

/-- Work on a deadline that has run out changes nothing if it leaves the transfer in hand as it is. -/
theorem State.onDue_idle {s : State} {f : Transfer → State} (stays : ∀ t, s.deadlineDue = some t → f t = s) :
    (Host.Outcome.next (match s.deadlineDue with
      | some t => f t
      | none => s) : Host.Outcome State Fault Refusal) = .next s := by
  cases due : s.deadlineDue with
  | none => rfl
  | some t => exact congrArg Host.Outcome.next (stays t due)

/-- A deadline that is not due does not happen. -/
theorem exec_of_not_mem_dueDeadline {s : State} {c : Instr} (deadline : c ∈ phaseDeadlines)
    (idle : c ∉ s.dueDeadline) : exec c s = .next s := by
  have away (t : Transfer) (due : s.deadlineDue = some t) : t.expiry ≠ c := fun own => by
    obtain ⟨held, up, out⟩ := State.deadlineDue_eq_some.mp due
    exact idle (State.mem_dueDeadline.mpr ⟨t, held, up, out, own⟩)
  simp only [phaseDeadlines, List.mem_cons, List.not_mem_nil, or_false] at deadline
  rcases deadline with rfl | rfl | rfl | rfl | rfl
  all_goals
    refine State.onDue_idle fun t due => ?_
    have away := away t due
    rw [Ne, Transfer.expiry_eq_iff] at away
    split
  · exact absurd ‹t.phase = .opening› away
  · rfl
  · exact absurd ‹t.phase = .dead› away
  · rfl
  · exact absurd ⟨‹t.phase = .closing›, ‹t.releasing = false›⟩ away
  · exact absurd ⟨‹t.phase = .closing›, ‹t.releasing = false›⟩ away
  · rfl
  · exact absurd ⟨‹t.phase = .closing›, ‹t.releasing = true›⟩ away
  · rfl
  · exact absurd ‹t.phase = .fallback› away
  · rfl

/-- Nothing is due with no transfer in hand, with RESET_N low, or before the deadline has run out (R119). -/
theorem State.not_mem_dueDeadline {s : State}
    (idle : s.transfer = none ∨ s.pins.resetN = false ∨ ∀ g ∈ s.transfer, g.deadline ≠ 0) (c : Instr) :
    c ∉ s.dueDeadline := fun due => by
  obtain ⟨t, held, up, out, -⟩ := State.mem_dueDeadline.mp due
  rcases idle with none | down | running
  · rw [held] at none; cases none
  · rw [up] at down; cases down
  · exact running t held out

/-- Of a transfer in hand just the deadline of its phase can be due. -/
theorem State.not_mem_dueDeadline_of_expiry {s : State} {h : Transfer} (held : s.transfer = some h) {c : Instr}
    (away : h.expiry ≠ c) : c ∉ s.dueDeadline := fun due => by
  obtain ⟨t, held', -, -, own⟩ := State.mem_dueDeadline.mp due
  cases held.symm.trans held'
  exact away own

/-! ## A deadline that has run out -/

/-- A phase that may end as it begins: its end makes the queue scan, and a phase that stands does not
(R98, R113). -/
theorem State.scanIfIdle_ends_or_stands {c : Prop} [Decidable c] (s u : State) (g t : Transfer) (st : FeederState)
    (cause : FaultCause) (o : TransferOutcome) (r : Reason) (flags : List Flag) :
    (if c then s.endTransfer t st cause o r flags else { u with transfer := some g }).scanIfIdle =
      if c then (s.endTransfer t st cause o r flags).scan else { u with transfer := some g } := by
  split
  · exact s.scanIfIdle_endTransfer t st cause o r flags
  · exact State.scanIfIdle_held rfl

theorem State.targetRunning_eq {s : State} {h : Transfer} {i : SetSlot} {r : SetRec}
    (bound : (s.feeder h.feeder).bound.get h.target = some i) (found : s.set? i = some r) :
    s.targetRunning h = r.running := by
  simp only [State.targetRunning, State.boundSet, bound, found]

section Due

variable {s : State} {h : Transfer} {a : Side} (due : s.deadlineDue = some h)
include due

theorem execOpenTimeout_due (phase : h.phase = .opening) (old : h.fromSide = some a) :
    exec .openTimeout s = .next (s.openTimedOut h a).scanIfIdle := by
  change execOpenTimeout s = _
  simp only [execOpenTimeout, due, phase, old]

theorem execDeadTimeExpiry_due (phase : h.phase = .dead) (old : h.fromSide = some a) : exec .deadTimeExpiry s =
    .next (if s.targetRunning h then (s.beginClosing h).scanIfIdle
      else (s.beginFallback h a .targetStopped).scanIfIdle) := by
  change execDeadTimeExpiry s = _
  simp only [execDeadTimeExpiry, due, phase, old]

theorem execCloseTimeout_fromOn (phase : h.phase = .closing) (closing : h.releasing = false)
    (old : h.fromSide = some a) :
    exec .closeTimeout s = .next (s.beginFallback h a .closeTimeout).scanIfIdle := by
  change execCloseTimeout s = _
  simp only [execCloseTimeout, due, phase, closing, old]

theorem execCloseTimeout_fromDark (phase : h.phase = .closing) (closing : h.releasing = false)
    (dark : h.fromSide = none) : exec .closeTimeout s = .next (s.beginReleasing h).scanIfIdle := by
  change execCloseTimeout s = _
  simp only [execCloseTimeout, due, phase, closing, dark]

theorem execReleaseDeadline_due (phase : h.phase = .closing) (releasing : h.releasing = true) :
    exec .releaseDeadline s = .next
      (s.endTransfer h .fault .stuck .failed .closeTimeout [.transferFailed, .feederFault]).scanIfIdle := by
  change execReleaseDeadline s = _
  simp only [execReleaseDeadline, due, phase, releasing]

theorem execFallbackTimeout_due (phase : h.phase = .fallback) : exec .fallbackTimeout s = .next
    (s.endTransfer h .fault .stuck .failed .fallbackTimeout [.transferFailed, .feederFault]).scanIfIdle := by
  change execFallbackTimeout s = _
  simp only [execFallbackTimeout, due, phase]

end Due

/-- Settles O48: the deadline of each phase that has run out, and the deadlines that do not happen. -/
theorem deadlinesEndTheirPhases : Obligations.DeadlinesEndTheirPhases := by
  intro s h held up out ch f driving t fallBack
  have due : s.deadlineDue = some h := State.deadlineDue_eq_some.mpr ⟨held, up, out⟩
  have fallsBack (a : Side) (why : FallbackReason) : (s.beginFallback h a why).scanIfIdle = fallBack a why := by
    rw [State.beginFallback_eq]
    exact State.scanIfIdle_ends_or_stands ..
  have idle {c : Instr} (deadline : c ∈ phaseDeadlines) (away : h.expiry ≠ c) : exec c s = .next s :=
    exec_of_not_mem_dueDeadline deadline (State.not_mem_dueDeadline_of_expiry held away)
  refine ⟨fun a phase old => ?opening,
    fun a i r phase old bound found => ⟨fun running => ?dead, fun stopped => ?stopped⟩,
    fun a phase closing old => ?fallsBack, fun phase closing dark => ?releases, fun phase releasing => ?stuck,
    fun phase => ?failed, fun away => idle (by decide) (mt (h.expiry_eq_iff .openTimeout).mp away),
    fun away => idle (by decide) (mt (h.expiry_eq_iff .deadTimeExpiry).mp away),
    fun away => idle (by decide) (mt (h.expiry_eq_iff .closeTimeout).mp ?notClosing),
    fun away => idle (by decide) (mt (h.expiry_eq_iff .releaseDeadline).mp ?notReleasing),
    fun away => idle (by decide) (mt (h.expiry_eq_iff .fallbackTimeout).mp away), fun v none => ?notDue⟩
  case opening =>
    rw [execOpenTimeout_due due phase old, State.openTimedOut, State.scanIfIdle_endTransfer]
    rfl
  case dead =>
    rw [execDeadTimeExpiry_due due phase old, State.targetRunning_eq bound found, if_pos running,
      State.beginClosing_eq, State.scanIfIdle_ends_or_stands]
    rfl
  case stopped =>
    rw [execDeadTimeExpiry_due due phase old, State.targetRunning_eq bound found, stopped, if_neg nofun, fallsBack]
  case fallsBack => rw [execCloseTimeout_fromOn due phase closing old, fallsBack]
  case releases =>
    rw [execCloseTimeout_fromDark due phase closing dark, State.beginReleasing_eq, ← ite_not,
      State.scanIfIdle_ends_or_stands, ite_not]
    rfl
  case stuck => rw [execReleaseDeadline_due due phase releasing, State.scanIfIdle_endTransfer]
  case failed => rw [execFallbackTimeout_due due phase, State.scanIfIdle_endTransfer]
  case notClosing =>
    rintro ⟨phase, closing⟩
    rcases away with other | releasing
    · exact other phase
    · rw [closing] at releasing; cases releasing
  case notReleasing =>
    rintro ⟨phase, releasing⟩
    rcases away with other | closing
    · exact other phase
    · rw [releasing] at closing; cases closing
  case notDue =>
    have stays {c : Instr} (deadline : c ∈ phaseDeadlines) : exec c v = .next v :=
      exec_of_not_mem_dueDeadline deadline (State.not_mem_dueDeadline none c)
    exact ⟨stays (by decide), stays (by decide), stays (by decide), stays (by decide), stays (by decide)⟩

end Sys2Proof.Machine
end

section
/-! Suppliers, tickets and permits, outcome by outcome (R126, R127, R136, R137, R139, R142). -/

namespace Sys2Proof.Machine

/-! ## The permit output (R136) -/

/-- Settles O50, by the permit mode and the ticket. -/
theorem permitOutputFollowsModeAndTicket : Obligations.PermitOutputFollowsModeAndTicket := by
  rintro ⟨mode, stray, ticket⟩
  cases mode with
  | forceOff => simp [Position.permitOn]
  | forceOn => simp [Position.permitOn]
  | auto => cases ticket <;> simp [Position.permitOn]

/-! ## Register Supplier (R139) -/

/-- The check of a docket's range, which Register Supplier and Close Ticket make (R138, R139, R140). -/
theorem docketCheck_inside {k : Nat} (low : 1 ≤ k) (high : k ≤ 999999) :
    (decide (1 ≤ k) && decide (k ≤ 999999)) = true := by
  simp [low, high]

theorem docketCheck_outside {k : Nat} (h : k = 0 ∨ 999999 < k) :
    (decide (1 ≤ k) && decide (k ≤ 999999)) = false := by
  simp only [Bool.and_eq_false_iff, decide_eq_false_iff_not]
  omega

section RegisterSupplier

variable {s : State} {b : Byte} {k : BitVec 24} {n : SupplierNo} (hopen : s.portOpen = true) (hb : b.toNat = n.val)
include hopen hb

theorem execRegisterSupplier_range (h : k.toNat = 0 ∨ 999999 < k.toNat) :
    execRegisterSupplier b k s = s.refused .range := by
  refine serve_refused hopen ?_
  rw [indexOperand_ok hb, ok_bind, docketCheck_outside h, require_false, error_bind]

variable (low : 1 ≤ k.toNat) (high : k.toNat ≤ 999999)
include low high

theorem execRegisterSupplier_exists (known : (s.supplier n).docket ≠ .unregistered) :
    execRegisterSupplier b k s = s.refused .exists := by
  refine serve_refused hopen ?_
  rw [indexOperand_ok hb, ok_bind, docketCheck_inside low high, require_true, ok_bind, beq_false_of_ne known,
    require_false, error_bind]

/-- An unregistered supplier's record begins at the docket given, with no close counted (R139). -/
theorem execRegisterSupplier_registers (unknown : (s.supplier n).docket = .unregistered) :
    execRegisterSupplier b k s = .next { s with
      suppliers := s.suppliers.set n ⟨.next k.toNat, 0, 0⟩
      sdo := .low, result := ⟨.ok, be 1 n.val ++ be 3 k.toNat⟩ } := by
  rw [execRegisterSupplier, indexOperand_ok hb, ok_bind, docketCheck_inside low high, require_true, ok_bind, unknown,
    beq_self_eq_true, require_true, ok_bind]
  exact serve_ok hopen

end RegisterSupplier

/-! ## Open Ticket (R126, R127) -/

section OpenTicket

variable {s : State} {pb ib nb : Byte} {q : BitVec 32} {p : PositionNo} {i : SetSlot} {n : SupplierNo}
  (hopen : s.portOpen = true) (hp : pb.toNat = p.val) (hi : ib.toNat = i.val + 1) (hn : nb.toNat = n.val)
include hp hi hn

/-- Behind its operands Open Ticket makes its four checks in order (R126). -/
theorem execOpenTicket_checks : execOpenTicket pb ib nb q s = serve s (do
    require (s.position p).ticket.isNone .state
    let r ← hiredSet s i
    require ((s.supplier n).docket != .unregistered) .noSupplier
    require ((s.supplier n).docket != .exhausted) .full
    .ok ⟨clampedIf (r.capacity - r.tank < q.toNat),
      be 1 p.val ++ be 1 (i.val + 1) ++ be 1 n.val ++ be 3 (min q.toNat (r.capacity - r.tank))
        ++ be 3 (r.capacity - r.tank) ++ be 3 (s.supplier n).docket.code,
      s.putPosition p { s.position p with
        ticket := some (Ticket.opened i n (min q.toNat (r.capacity - r.tank))) }⟩) := by
  rw [execOpenTicket, indexOperand_ok hp, ok_bind, slotOperand_ok hi, ok_bind, indexOperand_ok hn, ok_bind]
  rfl

include hopen

theorem execOpenTicket_state (held : (s.position p).ticket ≠ none) :
    execOpenTicket pb ib nb q s = s.refused .state := by
  have busy : (s.position p).ticket.isNone = false :=
    Option.isNone_eq_false_iff.mpr (Option.isSome_iff_ne_none.mpr held)
  rw [execOpenTicket_checks hp hi hn]
  exact serve_refused hopen (by rw [busy, require_false, error_bind])

variable (empty : (s.position p).ticket = none)
include empty

theorem execOpenTicket_noRecord (free : s.set? i = none) : execOpenTicket pb ib nb q s = s.refused .noRecord := by
  rw [execOpenTicket_checks hp hi hn]
  exact serve_refused hopen (by
    rw [empty, Option.isNone_none, require_true, ok_bind, hiredSet_none free, error_bind])

variable {r : SetRec} (found : s.set? i = some r)
include found

theorem execOpenTicket_noSupplier (unknown : (s.supplier n).docket = .unregistered) :
    execOpenTicket pb ib nb q s = s.refused .noSupplier := by
  rw [execOpenTicket_checks hp hi hn]
  exact serve_refused hopen (by
    rw [empty, Option.isNone_none, require_true, ok_bind, hiredSet_some found, ok_bind, unknown]
    rfl)

theorem execOpenTicket_full (exhausted : (s.supplier n).docket = .exhausted) :
    execOpenTicket pb ib nb q s = s.refused .full := by
  rw [execOpenTicket_checks hp hi hn]
  exact serve_refused hopen (by
    rw [empty, Option.isNone_none, require_true, ok_bind, hiredSet_some found, ok_bind, exhausted]
    rfl)

/-- The new ticket is READY with its order brought down to the room in the tank (R127). -/
theorem execOpenTicket_opens {k : Nat} (counts : (s.supplier n).docket = .next k) :
    execOpenTicket pb ib nb q s =
      let room := r.capacity - r.tank
      let stored := min q.toNat room
      .next { s with
        positions := s.positions.set p { s.position p with
          ticket := some ⟨.ready, i, n, stored, stored, 0, 0, 0, 0, false, false⟩ }
        sdo := .low, result := ⟨if room < q.toNat then .clamped else .ok,
          be 1 p.val ++ be 1 (i.val + 1) ++ be 1 n.val ++ be 3 stored ++ be 3 room ++ be 3 k⟩ } := by
  rw [execOpenTicket_checks hp hi hn, empty, Option.isNone_none, require_true, ok_bind, hiredSet_some found, ok_bind,
    counts, clampedIf_decide]
  exact serve_ok hopen

end OpenTicket

/-! ## Cancel Ticket (R142) -/

section CancelTicket

variable {s : State} {b : Byte} {p : PositionNo} (hopen : s.portOpen = true) (hb : b.toNat = p.val)
include hopen hb

/-- A READY ticket leaves its position empty (R142). -/
theorem execCancelTicket_cancels {t : Ticket} (held : (s.position p).ticket = some t) (ready : t.state = .ready) :
    execCancelTicket b s = .next { s with
      positions := s.positions.set p { s.position p with ticket := none }
      sdo := .low, result := ⟨.ok, be 1 p.val ++ be 1 (t.set.val + 1) ++ be 1 t.supplier.val⟩ } := by
  rw [execCancelTicket, indexOperand_ok hb, ok_bind, held]
  dsimp only
  rw [ready, beq_self_eq_true, require_true, ok_bind]
  exact serve_ok hopen

theorem execCancelTicket_state (unready : ∀ t ∈ (s.position p).ticket, t.state ≠ .ready) :
    execCancelTicket b s = s.refused .state := by
  refine serve_refused hopen ?_
  rw [indexOperand_ok hb, ok_bind]
  cases held : (s.position p).ticket with
  | none => rfl
  | some t =>
    dsimp only
    rw [beq_false_of_ne (unready t held), require_false, error_bind]

end CancelTicket

/-! ## Set Permit Mode (R137) -/

section SetPermitMode

variable {s : State} {pb mb : Byte} {p : PositionNo} (hopen : s.portOpen = true) (hp : pb.toNat = p.val)
include hopen hp

theorem execSetPermitMode_range (h : 2 < mb.toNat) : execSetPermitMode pb mb s = s.refused .range := by
  refine serve_refused hopen ?_
  rw [indexOperand_ok hp, ok_bind, permitModeOperand_range h, error_bind]

/-- From FORCE_ON the mode cannot go straight to AUTO: the mode and the output stand (R137). -/
theorem execSetPermitMode_sequence (forced : (s.position p).mode = .forceOn) (auto : mb.toNat = 0) :
    execSetPermitMode pb mb s = .next { s with
      sdo := .low, result := ⟨.sequence, be 1 p.val ++ be 1 2 ++ be 1 1⟩ } := by
  have on : (s.position p).permitOn = true := by rw [Position.permitOn, forced]
  rw [execSetPermitMode, indexOperand_ok hp, ok_bind, permitModeOperand_ok (m := .auto) auto, ok_bind]
  dsimp only
  rw [if_pos (by rw [forced]; rfl), forced, on]
  exact serve_ok hopen

theorem execSetPermitMode_writes {m : PermitMode} (hm : mb.toNat = m.code)
    (allowed : ¬ ((s.position p).mode = .forceOn ∧ m = .auto)) :
    execSetPermitMode pb mb s =
      let q : Position := { s.position p with mode := m }
      .next { s with
        positions := s.positions.set p q
        sdo := .low, result := ⟨.ok, be 1 p.val ++ be 1 m.code ++ be 1 q.permitOn.toNat⟩ } := by
  rw [execSetPermitMode, indexOperand_ok hp, ok_bind, permitModeOperand_ok hm, ok_bind]
  dsimp only
  rw [if_neg (by simpa using allowed)]
  exact serve_ok hopen

end SetPermitMode

/-- Settles O49: each outcome of the four commands is one of the equations above. -/
theorem ticketsOpenCancelAndPermit : Obligations.TicketsOpenCancelAndPermit := by
  intro s hopen
  refine ⟨fun nb k n hn => ⟨execRegisterSupplier_range hopen hn, execRegisterSupplier_exists hopen hn,
      execRegisterSupplier_registers hopen hn⟩,
    fun pb ib nb q p i n hp hi hn => ⟨execOpenTicket_state hopen hp hi hn, execOpenTicket_noRecord hopen hp hi hn,
      fun r empty found => ⟨execOpenTicket_noSupplier hopen hp hi hn empty found,
        execOpenTicket_full hopen hp hi hn empty found, fun k => execOpenTicket_opens hopen hp hi hn empty found⟩⟩,
    fun pb p hp => ⟨fun t => execCancelTicket_cancels hopen hp, execCancelTicket_state hopen hp⟩,
    fun pb mb p hp => ⟨execSetPermitMode_range hopen hp, execSetPermitMode_sequence hopen hp,
      fun m => execSetPermitMode_writes hopen hp⟩⟩

end Sys2Proof.Machine
end

section
/-! Close Ticket, outcome by outcome, and the supplier's docket it uses (R138, R140, R141). -/

namespace Sys2Proof.Machine

section CloseTicket

variable {s : State} {b : Byte} {docket : BitVec 24} {p : PositionNo} (hopen : s.portOpen = true)
  (hb : b.toNat = p.val)
include hopen hb

theorem execCloseTicket_range (h : docket.toNat = 0 ∨ 999999 < docket.toNat) :
    execCloseTicket b docket s = s.refused .range := by
  refine serve_refused hopen ?_
  rw [indexOperand_ok hb, ok_bind, docketCheck_outside h, require_false, error_bind]

variable (low : 1 ≤ docket.toNat) (high : docket.toNat ≤ 999999)
include low high

/-- A position without a ticket answers STATE, with no docket and no ticket state to report (R141). -/
theorem execCloseTicket_empty (empty : (s.position p).ticket = none) : execCloseTicket b docket s =
    .next { s with sdo := .low, result := ⟨.state, be 1 p.val ++ be 3 0 ++ be 1 0⟩ } := by
  rw [execCloseTicket, indexOperand_ok hb, ok_bind, docketCheck_inside low high, require_true, ok_bind,
    State.closeRefusal, empty]
  exact serve_ok hopen

variable {t : Ticket} (held : (s.position p).ticket = some t)
include held

omit hopen in
/-- Behind its docket's range Close Ticket makes its three checks in order, each reporting the supplier's next
docket and the ticket's state (R140, R141). -/
theorem execCloseTicket_checks :
    let r := s.supplier t.supplier
    let figures := be 1 p.val ++ be 3 r.docket.code ++ be 1 (ticketCode (some t))
    execCloseTicket b docket s = serve s (
      if t.state = .dispensing then .ok ⟨.state, figures, s⟩
      else if r.docket = .exhausted then .ok ⟨.full, figures, s⟩
      else if r.docket = .next docket.toNat then
        .ok ⟨.ok, be 1 p.val ++ be 1 (t.set.val + 1) ++ be 1 t.supplier.val ++ be 3 docket.toNat ++ be 3 t.ordered
            ++ be 4 (signedField 4 t.remaining) ++ be 3 t.delivered ++ be 3 t.credited ++ be 1 t.lifts
            ++ be 1 t.markers ++ be 3 (Docket.advance docket.toNat).code,
          (s.putSupplier t.supplier (r.closedTicket docket.toNat t)).putPosition p
            { s.position p with ticket := none }⟩
      else .ok ⟨.docket, figures, s⟩) := by
  rw [execCloseTicket, indexOperand_ok hb, ok_bind, docketCheck_inside low high, require_true, ok_bind,
    State.closeRefusal, held]
  rfl

theorem execCloseTicket_dispensing (flows : t.state = .dispensing) : execCloseTicket b docket s = .next { s with
    sdo := .low
    result := ⟨.state, be 1 p.val ++ be 3 (s.supplier t.supplier).docket.code ++ be 1 (ticketCode (some t))⟩ } := by
  rw [execCloseTicket_checks hb low high held, if_pos flows]
  exact serve_ok hopen

variable (still : t.state ≠ .dispensing)
include still

theorem execCloseTicket_full (exhausted : (s.supplier t.supplier).docket = .exhausted) :
    execCloseTicket b docket s = .next { s with
      sdo := .low
      result := ⟨.full, be 1 p.val ++ be 3 (s.supplier t.supplier).docket.code ++ be 1 (ticketCode (some t))⟩ } := by
  rw [execCloseTicket_checks hb low high held, if_neg still, if_pos exhausted]
  exact serve_ok hopen

theorem execCloseTicket_docket (counts : (s.supplier t.supplier).docket ≠ .exhausted)
    (other : (s.supplier t.supplier).docket ≠ .next docket.toNat) :
    execCloseTicket b docket s = .next { s with
      sdo := .low
      result := ⟨.docket,
        be 1 p.val ++ be 3 (s.supplier t.supplier).docket.code ++ be 1 (ticketCode (some t))⟩ } := by
  rw [execCloseTicket_checks hb low high held, if_neg still, if_neg counts, if_neg other]
  exact serve_ok hopen

/-- Against the supplier's next docket the ticket is closed, its figures the result (R140, R141). -/
theorem execCloseTicket_closes (due : (s.supplier t.supplier).docket = .next docket.toNat) :
    execCloseTicket b docket s = .next { s with
      suppliers := s.suppliers.set t.supplier ((s.supplier t.supplier).closedTicket docket.toNat t)
      positions := s.positions.set p { s.position p with ticket := none }
      sdo := .low
      result := ⟨.ok, be 1 p.val ++ be 1 (t.set.val + 1) ++ be 1 t.supplier.val ++ be 3 docket.toNat
        ++ be 3 t.ordered ++ be 4 (signedField 4 t.remaining) ++ be 3 t.delivered ++ be 3 t.credited
        ++ be 1 t.lifts ++ be 1 t.markers ++ be 3 (Docket.advance docket.toNat).code⟩ } := by
  rw [execCloseTicket_checks hb low high held, if_neg still, if_neg (by rw [due]; nofun), if_pos due]
  exact serve_ok hopen

end CloseTicket

/-- Settles O51: each outcome of Close Ticket is one of the equations above. -/
theorem closeTicketUsesTheNextDocket : Obligations.CloseTicketUsesTheNextDocket := by
  intro s b docket p hopen hb
  exact ⟨execCloseTicket_range hopen hb, fun low high => ⟨execCloseTicket_empty hopen hb low high, fun t held =>
    ⟨execCloseTicket_dispensing hopen hb low high held, execCloseTicket_full hopen hb low high held,
      execCloseTicket_docket hopen hb low high held, execCloseTicket_closes hopen hb low high held⟩⟩⟩

end Sys2Proof.Machine
end

section
/-! Fuel pulses, nozzle lifts and hang-ups, outcome by outcome (R125, R128 to R133). -/

namespace Sys2Proof.Machine

variable {s : State} {p : PositionNo}

/-! ## Fuel pulses (R129, R130, R131) -/

/-- A pulse counts the remaining figure down to its lower end, and marks the preset when it takes the figure from
above 0 to 0 or below (R129, R130). -/
theorem Ticket.pulsed_eq (t : Ticket) (w : Nat) : t.pulsed w =
    let left := max (-100000) (t.remaining - (w : Int))
    { t with
      delivered := satAdd max24 t.delivered w
      remaining := left
      preset := t.preset || (decide (0 < t.remaining) && decide (left ≤ 0))
      overrun := t.overrun || decide (t.remaining - (w : Int) ≤ -100000) } := by
  have held : decide (max (-100000) (t.remaining - (w : Int)) ≤ 0) = decide (t.remaining - (w : Int) ≤ 0) :=
    decide_eq_decide.mpr (by omega)
  rw [Ticket.pulsed, ← held]

/-- The overrun limit is news when the ticket had not met it before (R130). -/
theorem overrun_entered (before limit : Bool) : (!before && (before || limit)) = (limit && !before) := by
  cases before <;> simp

theorem execFuelPulse_stray (idle : ∀ t ∈ (s.position p).ticket, t.state ≠ .dispensing) :
    execFuelPulse p s = .next ((s.putPosition p { s.position p with
      stray := satAdd max24 (s.position p).stray s.fuelWeight }).raise .strayFuel) := by
  cases held : (s.position p).ticket with
  | none => simp only [execFuelPulse, held]
  | some t => simp only [execFuelPulse, held, if_neg (idle t held)]

theorem execFuelPulse_counts {t : Ticket} (held : (s.position p).ticket = some t) (flows : t.state = .dispensing) :
    execFuelPulse p s =
      let left := max (-100000) (t.remaining - s.fuelWeight)
      let reached := decide (0 < t.remaining) && decide (left ≤ 0)
      let limit := decide (t.remaining - s.fuelWeight ≤ -100000)
      .next (((s.putPosition p { s.position p with ticket := some { t with
          delivered := satAdd max24 t.delivered s.fuelWeight, remaining := left
          preset := t.preset || reached, overrun := t.overrun || limit } }).raiseIf
        reached .presetReached).raiseIf (limit && !t.overrun) .overrunLimit) := by
  simp only [execFuelPulse, held, if_pos flows, Ticket.pulsed_eq, overrun_entered]

/-! ## Nozzle lifts (R125, R128) -/

theorem execNozzleLift_same (active : s.pins.nozzle[p] = true) : execNozzleLift p s = .next s := by
  rw [execNozzleLift, if_pos active]

section Lift

variable (down : s.pins.nozzle[p] = false)
include down

theorem execNozzleLift_empty (empty : (s.position p).ticket = none) :
    execNozzleLift p s = .next (s.setNozzle p true) := by
  have held : ((s.setNozzle p true).position p).ticket = none := empty
  rw [execNozzleLift, if_neg (by rw [down]; nofun)]
  simp only [held]

/-- A lift makes a READY or PAUSED ticket DISPENSING and marks where its run begins (R128). -/
theorem execNozzleLift_lifts {t : Ticket} (held : (s.position p).ticket = some t) (still : t.state ≠ .dispensing) :
    execNozzleLift p s =
      .next ((s.setNozzle p true).putPosition p { s.position p with ticket := some t.lifted }) := by
  have same : (s.setNozzle p true).position p = s.position p := rfl
  rw [execNozzleLift, if_neg (by rw [down]; nofun)]
  simp only [same, held, if_neg still]

end Lift

/-! ## Hang-ups (R125, R132, R133) -/

theorem execHangUp_same (inactive : s.pins.nozzle[p] = false) : execHangUp p s = .next s := by
  rw [execHangUp, inactive]
  rfl

section HangUp

variable (up : s.pins.nozzle[p] = true)
include up

theorem execHangUp_idle (idle : ∀ t ∈ (s.position p).ticket, t.state ≠ .dispensing) :
    execHangUp p s = .next (s.setNozzle p false) := by
  have same : (s.setNozzle p false).position p = s.position p := rfl
  rw [execHangUp, if_neg (by rw [up]; nofun)]
  dsimp only
  rw [same]
  cases held : (s.position p).ticket with
  | none => rfl
  | some t => simp only [if_neg (idle t held)]

/-- A hang-up makes a DISPENSING ticket PAUSED, credits its run to its set and raises NOZZLE_DOWN (R132, R133). -/
theorem execHangUp_pauses {t : Ticket} (held : (s.position p).ticket = some t) (flows : t.state = .dispensing) :
    execHangUp p s = .next
      ((((s.setNozzle p false).putPosition p { s.position p with ticket := some t.hungUp }).creditTank t.set
        t.increment).raise .nozzleDown) := by
  have same : (s.setNozzle p false).position p = s.position p := rfl
  rw [execHangUp, if_neg (by rw [up]; nofun)]
  simp only [same, held, if_pos flows]

end HangUp

/-! ## The credit of a hang-up (R132) -/

section CreditTank

variable {i : SetSlot} {r : SetRec} (found : s.set? i = some r)
include found

theorem State.creditTank_zero {inc : Nat} (zero : inc = 0) : s.creditTank i inc = s := by
  rw [creditTank, found, zero]
  rfl

/-- A credit fills the tank estimate, so that it enters neither RESERVE nor DRY (R19, R20, R132). -/
theorem State.creditTank_positive {inc : Nat} (positive : 0 < inc)
    (reserve : r.conds.reserve = decide (r.tank ≤ r.reserve)) (dry : r.conds.dry = decide (r.tank = 0))
    (fits : r.tank ≤ r.capacity) : s.creditTank i inc =
      (s.putSet i (some (r.creditFuel inc))).raiseIf (decide (r.capacity < r.tank + inc)) .overfill := by
  have filled : r.tank ≤ (r.creditFuel inc).tank := le_min (Nat.le_add_right _ _) fits
  have noReserve : ((r.creditFuel inc).conds.reserve && !r.conds.reserve) = false := by
    have after : (r.creditFuel inc).conds.reserve = decide ((r.creditFuel inc).tank ≤ r.reserve) := rfl
    rw [reserve, after, Bool.and_eq_false_iff, Bool.not_eq_false', decide_eq_false_iff_not, decide_eq_true_iff]
    omega
  have noDry : ((r.creditFuel inc).conds.dry && !r.conds.dry) = false := by
    have after : (r.creditFuel inc).conds.dry = decide ((r.creditFuel inc).tank = 0) := rfl
    rw [dry, after, Bool.and_eq_false_iff, Bool.not_eq_false', decide_eq_false_iff_not, decide_eq_true_iff]
    omega
  have overload : (r.creditFuel inc).conds.overload = r.conds.overload := rfl
  rw [creditTank, found]
  dsimp only
  rw [if_neg (Nat.ne_of_gt positive), State.writeSet_same s i (before := r) (after := r.creditFuel inc) rfl,
    noReserve, noDry, overload, Bool.and_not_self]
  rfl

end CreditTank

/-- Settles O52: each outcome of the three events is one of the equations above. -/
theorem pulsesLiftsAndHangUpsMeterTheTicket : Obligations.PulsesLiftsAndHangUpsMeterTheTicket := by
  intro s p
  refine ⟨execFuelPulse_stray, fun t => execFuelPulse_counts, execNozzleLift_same, execHangUp_same,
    fun down => ⟨execNozzleLift_empty down, fun t => execNozzleLift_lifts down⟩,
    fun up => ⟨execHangUp_idle up, fun t r held flows found => ?_⟩⟩
  have there (q : Position) : ((s.setNozzle p false).putPosition p q).set? t.set = some r := found
  have pauses := execHangUp_pauses up held flows
  refine ⟨fun zero => pauses.trans ?_, fun positive reserve dry fits => pauses.trans ?_⟩
  · rw [State.creditTank_zero (there _) (inc := t.increment) zero]
    rfl
  · rw [State.creditTank_positive (there _) (inc := t.increment) positive reserve dry fits]
    rfl

end Sys2Proof.Machine
end

section
/-! Query Position, Query Supplier, Query Account, Find Account and Fetch Statement as rows of figures (R143, R144,
R150, R151, R163, R189, R191, R193). -/

namespace Sys2Proof.Machine

/-! ## Tables of figures -/

/-- A table's figures in order. -/
theorem toList_eq_finRange {n : Nat} (v : Vector Nat n) : v.toList = (List.finRange n).map fun k => v[k] :=
  List.ext_getElem (by simp) fun _ _ _ => by simp

/-- The figures of a table of one width stand at even distances. -/
theorem placesFrom_finRange {n : Nat} (off width : Nat) (figure : Fin n → Nat) :
    placesFrom off ((List.finRange n).map fun k => (width, figure k))
      = (List.finRange n).map fun k => (off + width * k.val, width, figure k) := by
  have row : ((List.finRange n).map fun k => (width, figure k))
      = ((List.finRange n).map figure).map fun v => (width, v) := by rw [List.map_map]; rfl
  rw [row, placesFrom_map]
  refine List.ext_getElem (by simp) fun k hk _ => ?_
  have bound : k < n := by simpa using hk
  simp [List.getD_eq_getElem?_getD, bound]

theorem sum_widths_finRange {n : Nat} (width : Nat) (figure : Fin n → Nat) :
    (((List.finRange n).map fun k => (width, figure k)).map (·.1)).sum = width * n := by
  simp [Function.comp_def, Nat.mul_comm]

/-! ## Query Position (R143, R191) -/

/-- The row of figures of a position's ticket, 00h throughout when there is none (R189). -/
def ticketRow : Option Ticket → List (Nat × Nat)
  | none => List.replicate 21 (1, 0)
  | some t =>
    [(1, ticketCode (some t)), (1, t.markers), (1, t.set.val + 1), (1, t.supplier.val), (3, t.ordered),
     (4, signedField 4 t.remaining), (3, t.delivered), (3, t.liftMark), (3, t.credited), (1, t.lifts)]

theorem ticketBytes_eq (t : Option Ticket) : ticketBytes t = layout (ticketRow t) := by
  cases t with
  | none => rfl
  | some t =>
    simp only [ticketBytes, ticketRow, layout, List.flatMap_cons, List.flatMap_nil, List.append_nil,
      List.append_assoc, byte_eq_be, beInt, signedField, slotCode]

theorem ticketRow_width (t : Option Ticket) : ((ticketRow t).map (·.1)).sum = 21 := by
  cases t <;> rfl

/-- The row of figures of the position readout (R191). -/
def State.positionRow (s : State) (p : PositionNo) : List (Nat × Nat) :=
  let q := s.position p
  [(1, p.val), (1, q.mode.code),
   (1, q.permitOn.toNat + 2 * (s.pins.nozzle[p]).toNat + 4 * s.straps.fuelFine.toNat), (3, q.stray)]
    ++ ticketRow q.ticket

theorem layout_positionRow (s : State) (p : PositionNo) : layout (s.positionRow p) =
    byte p.val ++ byte (s.position p).mode.code
      ++ byte ((s.position p).permitOn.toNat + 2 * (s.pins.nozzle[p]).toNat + 4 * s.straps.fuelFine.toNat)
      ++ be 3 (s.position p).stray ++ ticketBytes (s.position p).ticket := by
  rw [State.positionRow, layout_append, ticketBytes_eq]
  simp only [layout, List.flatMap_cons, List.flatMap_nil, List.append_nil, List.append_assoc, byte_eq_be]

theorem State.positionRow_width (s : State) (p : PositionNo) : ((s.positionRow p).map (·.1)).sum = 27 := by
  rw [positionRow, List.map_append, List.sum_append, ticketRow_width]
  rfl

/-! ## Query Supplier (R144, R193) -/

/-- The row of figures of the supplier readout, the tickets against the supplier behind its record (R144). -/
def State.supplierRow (s : State) (n : SupplierNo) : List (Nat × Nat) :=
  let r := s.supplier n
  [(1, n.val), (1, if r.docket = .unregistered then 0 else 1), (3, r.docket.code), (3, r.closed), (4, r.delivered)]
    ++ (List.finRange 4).map fun p => (1, (s.position p).ticketAgainst n)

theorem registered_toNat (d : Docket) : (d != .unregistered).toNat = if d = .unregistered then 0 else 1 := by
  cases d <;> rfl

theorem layout_supplierRow (s : State) (n : SupplierNo) : layout (s.supplierRow n) =
    byte n.val ++ byte ((s.supplier n).docket != .unregistered).toNat ++ be 3 (s.supplier n).docket.code
      ++ be 3 (s.supplier n).closed ++ be 4 (s.supplier n).delivered
      ++ byte ((s.position 0).ticketAgainst n) ++ byte ((s.position 1).ticketAgainst n)
      ++ byte ((s.position 2).ticketAgainst n) ++ byte ((s.position 3).ticketAgainst n) := by
  have positions : List.finRange 4 = [0, 1, 2, 3] := rfl
  simp only [State.supplierRow, positions, registered_toNat, layout, List.map_cons, List.map_nil, List.flatMap_append,
    List.flatMap_cons, List.flatMap_nil, List.append_nil, List.append_assoc, byte_eq_be]

/-! ## Query Account (R151, R191) -/

/-- A text filled up with 00h and cut to a length (R189). -/
theorem take_padded (n : Nat) (l : List Byte) :
    (l ++ List.replicate n 0).take n = (List.range n).map fun k => l.getD k 0 := by
  refine List.ext_getElem (by simp) fun k hk _ => ?_
  have inside : k < n := by simpa using hk
  by_cases given : k < l.length
  · simp [given]
  · simp [given, List.getElem_append_right (Nat.le_of_not_lt given)]

/-- A byte is the layout of its figure (R1). -/
theorem be_toNat (b : Byte) : be 1 b.toNat = [b] := by
  simp [be]

/-- The sixteen bytes of a label, one figure each. -/
def labelRow (label : List Byte) : List (Nat × Nat) := (List.range 16).map fun k => (1, (label.getD k 0).toNat)

theorem layout_labelRow (label : List Byte) :
    layout (labelRow label) = (label ++ List.replicate 16 0).take 16 := by
  rw [take_padded, layout, labelRow, List.flatMap_map]
  simp only [be_toNat, List.map_eq_flatMap]

/-- The bytes of a label, counted by the places of a table. -/
theorem labelRow_eq (label : List Byte) :
    labelRow label = (List.finRange 16).map fun k => (1, (label.getD k.val 0).toNat) := by
  rw [labelRow, ← List.map_coe_finRange_eq_range, List.map_map]
  rfl

theorem labelRow_width (label : List Byte) : ((labelRow label).map (·.1)).sum = 16 := by
  rw [labelRow_eq, sum_widths_finRange]

theorem placesFrom_labelRow (off : Nat) (label : List Byte) :
    placesFrom off (labelRow label) = (List.range 16).map fun k => (off + k, 1, (label.getD k 0).toNat) := by
  rw [labelRow_eq, placesFrom_finRange, ← List.map_coe_finRange_eq_range, List.map_map]
  simp only [Nat.one_mul, Function.comp_def]

/-- The four bands of an account or a statement, a figure of four bytes each. -/
def bandRow (band : Vector Nat 4) : List (Nat × Nat) := (List.finRange 4).map fun k => (4, band[k])

theorem layout_bandRow (band : Vector Nat 4) : layout (bandRow band) = band.toList.flatMap (be 4) := by
  rw [toList_eq_finRange, layout, bandRow, List.flatMap_map, List.flatMap_map]

theorem bandRow_width (band : Vector Nat 4) : ((bandRow band).map (·.1)).sum = 16 := sum_widths_finRange 4 _

theorem placesFrom_bandRow (off : Nat) (band : Vector Nat 4) :
    placesFrom off (bandRow band) = (List.finRange 4).map fun k => (off + 4 * k.val, 4, band[k]) :=
  placesFrom_finRange off 4 _

/-- The row of figures of the account readout (R191). -/
def State.accountRow (s : State) (a : AccountSlot) (r : Account) : List (Nat × Nat) :=
  [(4, r.code.toNat),
   (1, r.label.length + 32 * r.hold.toNat + 64 * r.saturated.toNat + 128 * r.statement.isSome.toNat)]
    ++ labelRow r.label ++ bandRow r.band
    ++ [(6, r.energyAccrual), (4, r.fuelShare), (6, r.fuelAccrual), (3, r.periodStart), (2, r.nextStatement),
        (2, 1024 * s.feedersNaming a + 32 * s.setsNaming a + (s.carriedAll a).length),
        (4, min max32 (s.carriedAll a).sum)]

theorem accountView_eq (s : State) (a : AccountSlot) (r : Account) : s.accountView a r = layout (s.accountRow a r) := by
  rw [State.accountRow, layout_append, layout_append, layout_append, layout_labelRow, layout_bandRow]
  simp only [layout, List.flatMap_cons, List.flatMap_nil, List.append_nil, State.accountView, List.append_assoc,
    byte_eq_be]

theorem State.accountRow_width (s : State) (a : AccountSlot) (r : Account) :
    ((s.accountRow a r).map (·.1)).sum = 64 := by
  simp only [accountRow, List.map_append, List.sum_append, labelRow_width, bandRow_width]
  rfl

/-- The hired sets that name an account, counted as a filter keeps them (R151). -/
theorem State.setsNaming_eq (s : State) (a : AccountSlot) :
    s.setsNaming a = (s.sets.toList.filter fun x => x.map (·.idle) == some a).length := by
  rw [setsNaming, List.countP_eq_length_filter]
  refine congrArg (fun f => (s.sets.toList.filter f).length) (funext fun x => ?_)
  cases x <;> rfl

/-- The entries under an account, picked from the carried entries of all sets (R73, R151). -/
theorem State.carriedAll_eq (s : State) (a : AccountSlot) : s.carriedAll a =
    ((s.sets.toList.flatMap fun x => (x.map (·.carried)).getD []).filter fun p => p.1 == a).map (·.2) := by
  rw [carriedAll, List.filter_flatMap, List.map_flatMap]
  refine List.flatMap_congr fun x _ => ?_
  cases x <;> rfl

/-! ## Find Account (R150) -/

theorem State.slotOfCode_eq_some {s : State} {code : BitVec 32} {a : AccountSlot} {r : Account}
    (opened : s.account? a = some r) (carries : r.code = code)
    (only : ∀ j q, s.account? j = some q → q.code = code → j = a) : s.slotOfCode code = some a := by
  cases e : s.slotOfCode code with
  | none => exact absurd carries (State.slotOfCode_eq_none.mp e a r opened)
  | some j =>
    have holds := List.find?_some e
    cases hj : s.account? j with
    | none => simp [hj] at holds
    | some q => rw [only j q hj (by simpa [hj] using holds)]

/-! ## Fetch Statement (R163, R191) -/

/-- The row of figures of the statement readout (R191). -/
def statementRow (a : AccountSlot) (code : BitVec 32) (st : Statement) : List (Nat × Nat) :=
  [(1, a.val), (4, code.toNat), (2, st.number), (3, st.periodStart), (3, st.periodEnd)] ++ bandRow st.band
    ++ [(4, st.fuel), (5, st.energyCents), (5, st.fuelCents), (5, st.totalCents), (1, st.saturated.toNat)]

theorem statementBytes_eq (a : AccountSlot) (code : BitVec 32) (st : Statement) :
    statementBytes a code st = layout (statementRow a code st) := by
  rw [statementRow, layout_append, layout_append, layout_bandRow]
  simp only [layout, List.flatMap_cons, List.flatMap_nil, List.append_nil, statementBytes, List.append_assoc,
    byte_eq_be]

theorem statementRow_width (a : AccountSlot) (code : BitVec 32) (st : Statement) :
    ((statementRow a code st).map (·.1)).sum = 49 := by
  simp only [statementRow, List.map_append, List.sum_append, bandRow_width]
  rfl

/-- Settles O16: each readout is a row of figures, and the row gives the table of places. -/
theorem fuelAndAccountReadouts : Obligations.FuelAndAccountReadouts := by
  intro s hopen
  refine ⟨fun b p hb => ?position, fun b n hb => ?supplier, fun b a r hb opened _ => ?account,
    fun code a r opened carries only => ?found, fun code unknown => ?unknown,
    fun b a r st hb opened settled => ?statement, fun b a r hb opened unsettled => ?noStatement⟩
  case position =>
    refine .ofLayout (s.positionRow p) hopen rfl ?_ (s.positionRow_width p) ?_
    · rw [indexOperand_ok hb, ok_bind, layout_positionRow]
    · rw [State.positionRow]
      cases (s.position p).ticket <;> rfl
  case supplier =>
    refine .ofLayout (s.supplierRow n) hopen rfl ?_ rfl ?_
    · rw [indexOperand_ok hb, ok_bind, layout_supplierRow]
    · rw [State.supplierRow, placesFrom_append, placesFrom_finRange]
      refine congrArg₂ (· ++ ·) rfl (List.map_congr_left fun p _ => ?_)
      rw [Position.ticketAgainst, Nat.one_mul]
      cases (s.position p).ticket <;> rfl
  case account =>
    refine .ofLayout (s.accountRow a r) hopen rfl ?_ (s.accountRow_width a r) ?_
    · rw [indexOperand_ok hb, ok_bind, openSlot_some opened, ok_bind, accountView_eq]
    · rw [State.accountRow, State.setsNaming_eq, State.carriedAll_eq, State.feedersNaming,
        List.countP_eq_length_filter]
      simp only [placesFrom_append, placesFrom_labelRow, placesFrom_bandRow, List.map_append, List.sum_append,
        labelRow_width, bandRow_width]
      rfl
  case found =>
    refine .ofLayout [(1, a.val)] hopen rfl ?_ rfl rfl
    rw [State.slotOfCode_eq_some opened carries only]
    rfl
  case unknown =>
    refine serve_refused hopen ?_
    rw [State.slotOfCode_eq_none.mpr unknown]
  case statement =>
    refine .ofLayout (statementRow a r.code st) hopen rfl ?_ (statementRow_width a r.code st) ?_
    · rw [indexOperand_ok hb, ok_bind, openSlot_some opened, ok_bind, settled, ← statementBytes_eq]
    · simp only [statementRow, placesFrom_append, placesFrom_bandRow, List.map_append, List.sum_append, bandRow_width]
      rfl
  case noStatement =>
    refine serve_refused hopen ?_
    rw [indexOperand_ok hb, ok_bind, openSlot_some opened, ok_bind, unsettled]

end Sys2Proof.Machine
end

section
/-! Identify, Query Clock and Query Tariff as rows of figures (R159, R171, R184, R193). -/

namespace Sys2Proof.Machine

/-! ## Identify (R184) -/

/-- The row of figures of the identity (R184). -/
def State.identityRow (s : State) : List (Nat × Nat) :=
  [(1, 0x42), (2, 7416), (1, 0x43), (1, strapsByte s.straps), (1, 24), (1, if s.straps.feeders8 then 8 else 16),
   (1, 64), (1, 4), (1, 4), (1, 6), (1, 8), (1, 0)]

theorem execIdentify_eq (s : State) : execIdentify s = serve s (.ok ⟨.ok, layout s.identityRow, s⟩) := rfl

/-! ## Query Clock (R171) -/

/-- The row of figures of the clock readout (R193). -/
def State.clockRow (s : State) : List (Nat × Nat) :=
  [(1, s.clock.valid.toNat + 2 * s.minuteHolds.toNat), (3, s.clock.minute), (1, s.clock.second), (1, s.hourByte),
   (4, s.uptime)]

theorem execQueryClock_eq (s : State) : execQueryClock s = serve s (.ok ⟨.ok, layout s.clockRow, s⟩) := rfl

/-! ## Query Tariff (R159) -/

/-- Figures of the schedule as one number of digits in a base, hour 0 in the highest digit (R193). -/
def Tariff.scheduleFigure (t : Tariff) (base : Nat) (figure : TariffItem Band → Nat) : Nat :=
  t.schedule.toList.foldl (fun v i => base * v + figure i) 0

theorem packPairs_schedule (t : Tariff) (figure : TariffItem Band → Nat) :
    packPairs (t.schedule.toList.map figure) = t.scheduleFigure 4 figure := List.foldl_map

theorem packBits_schedule (t : Tariff) (flag : TariffItem Band → Bool) :
    packBits (t.schedule.toList.map flag) = t.scheduleFigure 2 (fun i => (flag i).toNat) := List.foldl_map

/-- A figure of each of the four band rates, two bytes each. -/
def Tariff.ratesRow (t : Tariff) (figure : TariffItem Nat → Nat) : List (Nat × Nat) :=
  (List.finRange 4).map fun b => (2, figure t.rates[b])

theorem layout_ratesRow (t : Tariff) (figure : TariffItem Nat → Nat) :
    layout (t.ratesRow figure) = t.rates.toList.flatMap fun i => be 2 (figure i) := by
  have figures : t.rates.toList.map figure = (List.finRange 4).map fun b => figure t.rates[b] := by
    rw [← Vector.toList_map, toList_eq_finRange]
    simp
  rw [← List.flatMap_map figure, figures, layout, Tariff.ratesRow, List.flatMap_map, List.flatMap_map]

theorem Tariff.ratesRow_width (t : Tariff) (figure : TariffItem Nat → Nat) :
    ((t.ratesRow figure).map (·.1)).sum = 8 := sum_widths_finRange 2 _

theorem placesFrom_ratesRow (off : Nat) (t : Tariff) (figure : TariffItem Nat → Nat) :
    placesFrom off (t.ratesRow figure) = (List.finRange 4).map fun b => (off + 2 * b.val, 2, figure t.rates[b]) :=
  placesFrom_finRange off 2 _

/-- The row of figures of the tariff readout (R193). -/
def State.tariffRow (s : State) : List (Nat × Nat) :=
  let t := s.tariff
  [(1, s.tariffFlags)] ++ t.ratesRow (·.live) ++ t.ratesRow (·.waiting.getD 0)
    ++ [(2, t.price.live), (2, t.price.waiting.getD 0), (6, t.scheduleFigure 4 (·.live.val)),
        (3, t.scheduleFigure 2 (·.waiting.isSome.toNat)),
        (6, t.scheduleFigure 4 fun i => (i.waiting.map (·.val)).getD 0),
        (1, s.hourByte), (1, s.bandInForce.val), (2, s.rateInForce)]

theorem layout_tariffRow (s : State) : layout s.tariffRow =
    byte s.tariffFlags ++ s.tariff.rates.toList.flatMap (fun i => be 2 i.live)
      ++ s.tariff.rates.toList.flatMap (fun i => be 2 (i.waiting.getD 0))
      ++ be 2 s.tariff.price.live ++ be 2 (s.tariff.price.waiting.getD 0)
      ++ be 6 (packPairs (s.tariff.schedule.toList.map (·.live.val)))
      ++ be 3 (packBits (s.tariff.schedule.toList.map (·.waiting.isSome)))
      ++ be 6 (packPairs (s.tariff.schedule.toList.map fun i => (i.waiting.map (·.val)).getD 0))
      ++ byte s.hourByte ++ byte s.bandInForce.val ++ be 2 s.rateInForce := by
  rw [State.tariffRow, layout_append, layout_append, layout_append, layout_ratesRow, layout_ratesRow,
    packPairs_schedule, packPairs_schedule, packBits_schedule]
  simp only [layout, List.flatMap_cons, List.flatMap_nil, List.append_nil, List.append_assoc, byte_eq_be]

/-- The readout is the layout of its row; an hour in which no band waits reads 0 (R193). -/
theorem execQueryTariff_eq (s : State) : execQueryTariff s = serve s (.ok ⟨.ok, layout s.tariffRow, s⟩) := by
  have waiting : (fun i : TariffItem Band => (i.waiting.map (·.val)).getD 0)
      = fun i => match i.waiting with
        | some b => b.val
        | none => 0 := funext fun i => by cases i.waiting <;> rfl
  rw [layout_tariffRow, waiting]
  rfl

theorem State.tariffRow_width (s : State) : (s.tariffRow.map (·.1)).sum = 40 := by
  simp only [tariffRow, List.map_append, List.sum_append, Tariff.ratesRow_width]
  rfl

/-- Settles O13: each readout is a row of figures, and the row gives the table of places. -/
theorem identityClockAndTariffReadouts : Obligations.IdentityClockAndTariffReadouts := by
  intro s hopen
  refine ⟨?identity, ?clock, ?tariff⟩
  case identity => exact .ofLayout s.identityRow hopen (execIdentify_eq s) rfl rfl rfl
  case clock => exact .ofLayout s.clockRow hopen (execQueryClock_eq s) rfl rfl rfl
  case tariff =>
    refine .ofLayout s.tariffRow hopen (execQueryTariff_eq s) rfl s.tariffRow_width ?_
    simp only [State.tariffRow, State.rateInForce, ← s.bandInForce_eq, placesFrom_append, placesFrom_ratesRow,
      List.map_append, List.sum_append, Tariff.ratesRow_width]
    rfl

end Sys2Proof.Machine
end

section
/-! The tariff commands, whose values wait (R155). -/

namespace Sys2Proof.Machine

section TariffWrites

variable {s : State} {band : Byte} {b : Band} (hopen : s.portOpen = true) (hb : band.toNat = b.val)
include hopen hb

/-- The rate given waits behind the band's live rate (R155). -/
theorem execSetBandRate_waits (rate : BitVec 16) : execSetBandRate band rate s = .next { s with
    tariff := { s.tariff with rates := s.tariff.rates.set b ⟨(s.tariff.rates[b]).live, some rate.toNat⟩ }
    sdo := .low, result := ⟨.ok, be 1 b.val ++ be 2 (s.tariff.rates[b]).live ++ be 2 rate.toNat⟩ } := by
  rw [execSetBandRate, indexOperand_ok hb, ok_bind]
  exact serve_ok hopen

/-- The band given waits behind the hour's live band (R155). -/
theorem execSetScheduleSlot_waits {hour : Byte} {h : Hour} (hh : hour.toNat = h.val) :
    execSetScheduleSlot hour band s = .next { s with
      tariff := { s.tariff with schedule := s.tariff.schedule.set h ⟨(s.tariff.schedule[h]).live, some b⟩ }
      sdo := .low, result := ⟨.ok, be 1 h.val ++ be 1 (s.tariff.schedule[h]).live.val ++ be 1 b.val⟩ } := by
  rw [execSetScheduleSlot, indexOperand_ok hh, ok_bind, indexOperand_ok hb, ok_bind]
  exact serve_ok hopen

end TariffWrites

/-- The price given waits behind the live price (R155). -/
theorem execSetFuelPrice_waits {s : State} (hopen : s.portOpen = true) (price : BitVec 16) :
    execSetFuelPrice price s = .next { s with
      tariff := { s.tariff with price := ⟨s.tariff.price.live, some price.toNat⟩ }
      sdo := .low, result := ⟨.ok, be 2 s.tariff.price.live ++ be 2 price.toNat⟩ } :=
  serve_ok hopen

/-- Settles O55: a write waits behind its live value, and an operand that names no item is refused. -/
theorem tariffWritesWait : Obligations.TariffWritesWait := by
  intro s hopen
  refine ⟨fun _ _ rate hb => execSetBandRate_waits hopen hb rate, execSetFuelPrice_waits hopen,
    fun _ _ _ _ hh hb => execSetScheduleSlot_waits hopen hb hh, fun _ _ outside => serve_index_range hopen outside,
    fun _ _ outside => ?_⟩
  rcases outside with hour | band
  · exact serve_index_range hopen hour
  · exact execSetScheduleSlot_band hopen band

end Sys2Proof.Machine
end

section
/-! Settlement, release of a statement and the holds, outcome by outcome (R160 to R162, R164 to R166). -/

namespace Sys2Proof.Machine

section Account

variable {s : State} {b : Byte} {a : AccountSlot} {r : Account} (hopen : s.portOpen = true) (hb : b.toNat = a.val)
  (opened : s.account? a = some r)
include hopen hb opened

/-! ## Settle Account (R160 to R162) -/

omit hopen in
/-- Behind its operand Settle Account makes its three checks in order (R160). -/
theorem execSettleAccount_checks : execSettleAccount b s = serve s (
    if !r.hold then
      if r.statement.isNone then
        if s.clock.valid then
          let st := r.settle s.clock.minute
          .ok ⟨.ok, be 1 a.val ++ be 2 st.number ++ be 5 st.energyCents ++ be 5 st.fuelCents ++ be 5 st.totalCents,
            s.putAccount a (some (r.settled s.clock.minute))⟩
        else .error .noClock
      else .error .pending
    else .error .held) := by
  rw [execSettleAccount]
  simp only [indexOperand_ok hb, openSlot_some opened, ok_bind, require_bind, byte_eq_be]

theorem execSettleAccount_held (held : r.hold = true) : execSettleAccount b s = s.refused .held := by
  rw [execSettleAccount_checks hb opened]
  exact serve_refused hopen (by rw [held]; rfl)

theorem execSettleAccount_pending (unheld : r.hold = false) (settled : r.statement ≠ none) :
    execSettleAccount b s = s.refused .pending := by
  rw [execSettleAccount_checks hb opened]
  have stands : r.statement.isNone = false := Option.isNone_eq_false_iff.mpr (Option.isSome_iff_ne_none.mpr settled)
  exact serve_refused hopen (by rw [unheld, stands]; rfl)

theorem execSettleAccount_noClock (unheld : r.hold = false) (released : r.statement = none)
    (invalid : s.clock.valid = false) : execSettleAccount b s = s.refused .noClock := by
  rw [execSettleAccount_checks hb opened]
  exact serve_refused hopen (by rw [unheld, released, invalid]; rfl)

/-- With every check passed the account's statement is built and its next period begins (R161, R162). -/
theorem execSettleAccount_settles (unheld : r.hold = false) (released : r.statement = none)
    (valid : s.clock.valid = true) :
    let st := r.settle s.clock.minute
    execSettleAccount b s = .next { s with
      accounts := s.accounts.set a (some (r.settled s.clock.minute)), sdo := .low
      result := ⟨.ok, be 1 a.val ++ be 2 st.number ++ be 5 st.energyCents ++ be 5 st.fuelCents
        ++ be 5 st.totalCents⟩ } := by
  rw [execSettleAccount_checks hb opened, unheld, released, valid]
  exact serve_ok hopen

/-! ## Release Statement (R164) -/

theorem execReleaseStatement_noRecord (unsettled : r.statement = none) :
    execReleaseStatement b s = s.refused .noRecord := by
  refine serve_refused hopen ?_
  rw [indexOperand_ok hb, ok_bind, openSlot_some opened, ok_bind, unsettled]

theorem execReleaseStatement_releases {st : Statement} (settled : r.statement = some st) :
    execReleaseStatement b s = .next { s with
      accounts := s.accounts.set a (some { r with statement := none })
      sdo := .low, result := ⟨.ok, be 1 a.val ++ be 2 st.number⟩ } := by
  rw [execReleaseStatement, indexOperand_ok hb, ok_bind, openSlot_some opened, ok_bind, settled]
  exact serve_ok hopen

/-! ## Holds (R165, R166) -/

/-- The answer's count takes in the hold just placed (R165). -/
theorem execPlaceHold_holds : execPlaceHold b s = .next { s with
    accounts := s.accounts.set a (some { r with hold := true }), sdo := .low
    result := ⟨.ok, be 1 a.val ++ be 1 (s.putAccount a (some { r with hold := true })).heldCount⟩ } := by
  rw [execPlaceHold, indexOperand_ok hb, ok_bind, openSlot_some opened, ok_bind]
  exact serve_ok hopen

end Account

/-- The answer's count is of the holds before they are cleared (R166). -/
theorem execReleaseAllHolds_clears {s : State} (hopen : s.portOpen = true) : execReleaseAllHolds s = .next { s with
    accounts := s.accounts.map (Option.map fun r => { r with hold := false })
    sdo := .low, result := ⟨.ok, be 1 s.heldCount⟩ } :=
  serve_ok hopen

/-- The accounts held, counted as a filter keeps them. -/
theorem State.heldCount_eq (s : State) :
    s.heldCount = (s.accounts.toList.filter fun x => (x.map (·.hold)).getD false).length := by
  rw [heldCount, List.countP_eq_length_filter]
  refine congrArg (fun f => (s.accounts.toList.filter f).length) (funext fun x => ?_)
  cases x <;> rfl

/-- Settles O54: each outcome of the four commands is one of the equations above. -/
theorem accountsSettleReleaseAndHold : Obligations.AccountsSettleReleaseAndHold := by
  intro s hopen
  refine ⟨fun b a r hb opened => ⟨execSettleAccount_held hopen hb opened, execSettleAccount_pending hopen hb opened,
    execSettleAccount_noClock hopen hb opened, execSettleAccount_settles hopen hb opened,
    execReleaseStatement_noRecord hopen hb opened, fun st => execReleaseStatement_releases hopen hb opened, ?placed⟩,
    ?cleared⟩
  case placed =>
    refine (execPlaceHold_holds hopen hb opened).trans ?_
    rw [State.heldCount_eq]
    rfl
  case cleared =>
    refine (execReleaseAllHolds_clears hopen).trans ?_
    rw [State.heldCount_eq]

end Sys2Proof.Machine
end

section
/-! Frames the port does not take (R173, R175, R180), the supply modes (R172, R173), and the part right after
reset (R179). -/

namespace Sys2Proof.Machine

/-! ## Frames that are not taken -/

section ClosedPort

variable {s : State} (shut : s.portOpen = false)
include shut

/-- A served command in a closed port is no command. -/
theorem Serves.closed {o : Host.Outcome State Fault Refusal} (h : Serves s o) : o = .next s.notTaken := by
  obtain @⟨body, _⟩ := h
  exact serve_closed body shut

theorem execRestart_closed : execRestart s = .next s.notTaken :=
  congrArg _ (if_neg (Bool.eq_false_iff.mp shut))

/-- In a closed port a command frame is not taken, whatever its command. -/
theorem exec_command_closed {c : Instr} (command : (wire c).isSome = true) : exec c s = .next s.notTaken := by
  by_cases restart : c = .restart
  · subst restart
    exact execRestart_closed shut
  · exact (exec_serves s c command restart).closed shut

theorem execFetchResult_closed (bits : Nat) : execFetchResult bits s = .next s.notTaken :=
  congrArg _ (if_neg (Bool.eq_false_iff.mp shut))

theorem execSnapshot_closed : execSnapshot s = .next s :=
  congrArg _ (if_neg (Bool.eq_false_iff.mp shut))

theorem execUnknownCommand_closed (f : Frame) : execUnknownCommand f s = .next s.notTaken :=
  if_neg (by simp [shut])

end ClosedPort

/-- A raw frame that the port did not take from its fall to its rise is not judged (R173, R175). -/
theorem execUnknownCommand_notTaken {f : Frame} (ignored : f.taken = false) (s : State) :
    execUnknownCommand f s = .next s.notTaken :=
  if_neg (by simp [ignored])

/-- Read Attention with no snapshot held is the end of an abandoned frame, in an open port too (log 9). -/
theorem execReadAttention_abandoned {s : State} (empty : s.snapshot = none) (bits : Nat) :
    execReadAttention bits s = .next s.notTaken := by
  rw [execReadAttention, empty]

/-- In a closed port Read Attention clears no flag, and any snapshot of its frame is given up. -/
theorem execReadAttention_closed {s : State} (closed : s.portOpen = false) (bits : Nat) :
    execReadAttention bits s = .next { s.notTaken with snapshot := none } := by
  cases held : s.snapshot with
  | none =>
    rw [execReadAttention_abandoned held, ← held]
    rfl
  | some p =>
    rw [execReadAttention, held]
    exact congrArg _ (if_neg (Bool.eq_false_iff.mp closed))

/-- Settles O10: by the row of each kind of frame, in a closed port and for an abandoned frame. -/
theorem closedPortTakesNoFrame : Obligations.ClosedPortTakesNoFrame :=
  ⟨fun _ closed => ⟨fun _ => exec_command_closed closed, execFetchResult_closed closed,
    execSnapshot_closed closed, execReadAttention_closed closed, execUnknownCommand_closed closed⟩,
   fun s _ ignored => execUnknownCommand_notTaken ignored s,
   fun _ bits empty => execReadAttention_abandoned empty bits,
   fun _ => rfl⟩

/-! ## The supply modes (R172) -/

theorem execResumeTimerExpiry_due {s : State} (due : s.resumeDue = true) :
    execResumeTimerExpiry s = .next (({ s with mode := .active } : State).raise .supplyRestored).scan :=
  congrArg _ (if_pos due)

/-- An expiry that is not due does not happen (log 3). -/
theorem execResumeTimerExpiry_notDue {s : State} (early : ∀ ms, s.mode = .resuming ms → ms < 2000) :
    execResumeTimerExpiry s = .next s := by
  have notDue : ¬ s.resumeDue = true := fun due => by
    obtain ⟨ms, resuming, reached⟩ := s.resumeDue_iff.mp due
    have := early ms resuming
    omega
  exact congrArg _ (if_neg notDue)

/-- Settles O20: each edge of SUPPLY_OK changes the mode only from the other level, and the resume timer's
expiry happens exactly in RESUMING with 2,000 ms counted. -/
theorem supplyModesFollowTheLine : Obligations.SupplyModesFollowTheLine := by
  intro s
  refine ⟨fun high => ?falls, fun low => ?rises, fun low => ?isLow, fun high => ?isHigh,
    fun ms resuming reached => ?due, fun ms resuming early => ?early, fun other => ?other⟩
  case falls | isHigh => exact congrArg _ (if_pos high)
  case rises | isLow => exact congrArg _ (if_neg (Bool.eq_false_iff.mp low))
  case due => exact execResumeTimerExpiry_due (s.resumeDue_iff.mpr ⟨ms, resuming, reached⟩)
  case early =>
    refine execResumeTimerExpiry_notDue fun counted now => ?_
    cases resuming.symm.trans now
    exact early
  case other =>
    refine execResumeTimerExpiry_notDue fun counted now => ?_
    rw [now] at other
    rcases other with active | holdover <;> contradiction

/-! ## The part right after reset -/

/-- Settles O60: the reset state is a cold start, which meets each condition at any straps and pins (R179). -/
theorem resetMeetsEveryCondition : Obligations.ResetMeetsEveryCondition :=
  ⟨.cold _ _, .cold _ _, .cold _ _, .cold _ _, .cold _ _, .cold _ _⟩

end Sys2Proof.Machine
end

section
/-! What SDO drives over a reading frame (R180, R183, R187), which notices are set, which of them Read Attention
clears (R185, R187), and when ATTN_N is driven low (R188). -/

namespace Sys2Proof.Machine

/-! ## The bits driven on SDO (R180) -/

/-- Inside its bytes a stream's bits are theirs, and behind them it goes on with 00h. -/
theorem getD_flatMap_byteBits_replicate (out : List Byte) (n k : Nat) :
    (out.flatMap byteBits ++ List.replicate n false).getD k false = streamBit out k := by
  have inside : k % 8 < 8 := Nat.mod_lt _ (by decide)
  by_cases front : k / 8 < out.length
  · have bit := flatMap_byteBits_getD out (List.replicate n false) inside front
    rw [Nat.div_add_mod] at bit
    rw [bit, BitVec.getMsbD_eq_getLsbD, decide_eq_true inside, Bool.true_and]
    rfl
  · have behind : (out.flatMap byteBits).length ≤ k := by rw [length_flatMap_byteBits]; omega
    rw [List.getD_append_right _ _ _ _ behind, List.getD_eq_getElem?_getD,
      List.getElem?_getD_replicate_default_eq, streamBit, List.getD_eq_default _ _ (by omega)]
    exact BitVec.getLsbD_zero.symm

/-- Of the bits driven the first `n` are the stream's, and no more are driven. -/
theorem getElem?_outputBits (out : List Byte) (n k : Nat) :
    (outputBits out n)[k]? = if k < n then some (streamBit out k) else none := by
  rw [outputBits, List.getElem?_take]
  refine ite_congr rfl (fun clocked => ?_) fun _ => rfl
  have driven : k < (out.flatMap byteBits ++ List.replicate n false).length := by
    rw [List.length_append, List.length_replicate]; omega
  rw [List.getElem?_eq_getElem driven, ← List.getD_eq_getElem _ false driven, getD_flatMap_byteBits_replicate]

/-- SDO over a reading frame: 00h on bytes 0 and 1, then the stream for as many bits as are clocked. -/
theorem level_outputBits (out : List Byte) (n k : Nat) : (Sdo.output (outputBits out n)).level k =
    if k < 16 then some false else if k < 16 + n then some (streamBit out (k - 16)) else none := by
  refine ite_congr rfl (fun _ => rfl) fun behind => ?_
  rw [getElem?_outputBits]
  exact if_congr (by omega) rfl rfl

/-! ## Fetch Result (R183) -/

theorem execFetchResult_open {s : State} (taken : s.portOpen = true) (n : Nat) :
    execFetchResult n s = .next { s with sdo := .output (outputBits s.result.output n) } :=
  congrArg _ (if_pos taken)

/-- Settles O4: the output is the stream of the result buffer, and SDO alone is written. -/
theorem fetchResultDrivesTheBuffer : Obligations.FetchResultDrivesTheBuffer := fun s n taken =>
  ⟨_, execFetchResult_open taken n, rfl, rfl, level_outputBits s.result.output n⟩

/-! ## Read Attention (R187) -/

theorem execSnapshot_open {s : State} (taken : s.portOpen = true) :
    execSnapshot s = .next { s with snapshot := some ⟨s.flags, 0⟩ } :=
  congrArg _ (if_pos taken)

/-- The flags that the rise of SEL_N leaves, by the snapshot and the number of bits clocked (R187). -/
def Snapshot.leaves (p : Snapshot) (n : Nat) (flags : BitVec 16) : BitVec 16 :=
  if 16 ≤ n then flags &&& ~~~(p.taken &&& ~~~p.reRaised) else flags

theorem execReadAttention_open {s : State} {p : Snapshot} (held : s.snapshot = some p)
    (taken : s.portOpen = true) (n : Nat) :
    execReadAttention n s = .next { s with
      snapshot := none, sdo := .output (outputBits (be 2 p.taken.toNat) n), flags := p.leaves n s.flags } := by
  rw [execReadAttention, held]
  exact congrArg _ (if_pos taken)

/-- A flag stays set unless the snapshot held it, it was not raised again, and both bytes were clocked. -/
theorem Snapshot.getLsbD_leaves (p : Snapshot) (n : Nat) (flags : BitVec 16) (f : Flag) :
    (p.leaves n flags).getLsbD f.bit = (flags.getLsbD f.bit
      && (decide (n < 16) || !p.taken.getLsbD f.bit || p.reRaised.getLsbD f.bit)) := by
  unfold Snapshot.leaves
  split
  case isTrue whole => simp [Nat.not_lt.mpr whole, f.bit_lt]
  case isFalse cut => simp [Nat.not_le.mp cut]

/-- Of the flags set at the rise of SEL_N, Read Attention leaves those that were heard since the snapshot, and with
a byte not clocked whole those of the snapshot too (R187). -/
theorem Raises.getLsbD_leaves {s t : State} {P : Flag → Prop} [DecidablePred P] {p : Snapshot} (h : Raises s t P)
    (fresh : s.snapshot = some ⟨s.flags, 0⟩) (held : t.snapshot = some p) (high : s.pins.resetN = true) (n : Nat)
    (f : Flag) : (p.leaves n t.flags).getLsbD f.bit =
      ((decide (n < 16) && s.flags.getLsbD f.bit) || (decide (P f) && s.mask.getLsbD f.bit)) := by
  obtain ⟨_, held', figures, marks⟩ := h.snapshot _ fresh
  cases held.symm.trans held'
  have marked : p.reRaised.getLsbD f.bit = (decide (P f) && s.mask.getLsbD f.bit) := by
    rw [Bool.eq_iff_iff, marks]
    simp [State.hears, high, and_comm]
  rw [Snapshot.getLsbD_leaves, h.getLsbD_flags, high, Bool.and_true, figures, marked]
  generalize (decide (P f) && s.mask.getLsbD f.bit) = heard
  cases heard <;> cases s.flags.getLsbD f.bit <;> simp

/-- The bytes of a two-byte figure are the two halves of its word (R1). -/
theorem be_two_toNat (v : BitVec 16) : be 2 v.toNat = bytes16 v := by
  simp [be, bytes16, BitVec.extractLsb', Nat.shiftRight_eq_div_pow]

/-- Settles O5: what is raised behind the snapshot is set and marked, and the rise of SEL_N clears what the
snapshot holds unmarked. -/
theorem readAttentionLosesNoNotice : Obligations.ReadAttentionLosesNoNotice := by
  intro s fs n taken
  have high : s.pins.resetN = true := (Bool.and_eq_true_iff.mp taken).2
  let s1 : State := { s with snapshot := some ⟨s.flags, 0⟩ }
  have raises := Raises.raiseAll fs s1
  have frame := State.raiseAll_eq fs s1
  obtain ⟨p, held, figures, _⟩ := raises.snapshot _ rfl
  have taken' : (fs.foldl State.raise s1).portOpen = true := by rw [frame]; exact taken
  refine ⟨s1, _, execSnapshot_open taken, rfl, rfl, rfl, execReadAttention_open held taken' n, ?kept,
    raises.getLsbD_leaves rfl held high n, ?driven⟩
  case kept => rw [frame]
  case driven =>
    rw [figures, be_two_toNat]
    exact level_outputBits (bytes16 s.flags) n

/-! ## The mask and ATTN_N (R185, R186, R188) -/

theorem execSetAttentionMask_open {s : State} (taken : s.portOpen = true) (m : BitVec 16) :
    execSetAttentionMask m s = .next { s with mask := m, sdo := .low, result := ⟨.ok, be 2 m.toNat⟩ } :=
  serve_ok taken

/-- Each of the sixteen bits is a flag's (R191). -/
theorem Flag.exists_bit_eq {i : Nat} (h : i < 16) : ∃ f : Flag, f.bit = i :=
  ⟨.ofNat i, (by decide : ∀ i : Fin 16, (Flag.ofNat i).bit = i) ⟨i, h⟩⟩

/-- A word of flags is clear exactly while no flag of it is set. -/
theorem ne_zero_iff_exists_flag (v : BitVec 16) : v ≠ 0 ↔ ∃ f : Flag, v.getLsbD f.bit = true := by
  constructor
  · intro nonzero
    by_contra clear
    refine nonzero (BitVec.eq_of_getLsbD_eq fun i inside => ?_)
    obtain ⟨f, rfl⟩ := Flag.exists_bit_eq inside
    simpa using fun set => clear ⟨f, set⟩
  · rintro ⟨f, set⟩ rfl
    simp at set

theorem State.attnLow_iff (s : State) : s.attnLow = true ↔
    (∃ f : Flag, s.flags.getLsbD f.bit = true) ∧ s.mode = .active ∧ s.pins.resetN = true := by
  rw [State.attnLow, Bool.and_eq_true, Bool.and_eq_true, bne_iff_ne, ne_zero_iff_exists_flag, beq_iff_eq,
    and_assoc]

theorem State.getLsbD_flags_raise (s : State) (f g : Flag) : (s.raise f).flags.getLsbD g.bit =
    (s.flags.getLsbD g.bit || (decide (f = g) && s.pins.resetN && s.mask.getLsbD f.bit)) := by
  rw [(Raises.raise s f).getLsbD_flags g]
  by_cases same : f = g
  · rw [same]
  · simp [same, Ne.symm same]

/-- Settles O6: the command, one raise by the flags it sets and by its frame, and the line. -/
theorem maskGatesNoticesAndTheLineFollowsTheFlags : Obligations.MaskGatesNoticesAndTheLineFollowsTheFlags :=
  ⟨fun _ m taken => execSetAttentionMask_open taken m, State.getLsbD_flags_raise, State.raise_eq,
    State.attnLow_iff⟩

end Sys2Proof.Machine
end

section
/-! A raw frame that the port takes: how it is judged, what each judgement leads to, and that a whole frame has the
effect of its command's own row (R181, R182); and the step that runs a row. -/

namespace Sys2Proof

/-! ## The judgement (R181) -/

/-- The codes of the table are those it lists (R192). -/
theorem countsOf_isSome_iff (code : Nat) :
    (countsOf code).isSome = true ↔ code ∈ commandTable.map Prod.fst := by
  rw [countsOf, List.lookup_isSome_iff, List.mem_map]
  exact exists_congr fun p => and_congr_right fun _ => by rw [beq_iff_eq, eq_comm]

section Judged

variable {f : Frame} {code : Byte} {rest : List Byte}

/-- Step 1: no whole byte. -/
theorem judge_of_length_lt (short : f.bits.length < 8) : judge f = .ignored := by
  rw [judge, Frame.bytes, assemble_of_length_lt short, ite_self]

variable (taken : f.taken = true)
include taken

/-- Step 2: the code is not in the table, whatever the rest of the frame holds. -/
theorem judge_unknown (spelt : f.bytes = code :: rest) (undefined : countsOf code.toNat = none) :
    judge f = .unknown := by
  simp [judge, taken, spelt, undefined]

/-- Step 3: the count byte is not whole. -/
theorem judge_noCount {counts : List Nat} (spelt : f.bytes = [code]) (known : countsOf code.toNat = some counts) :
    judge f = .length := by
  simp [judge, taken, spelt, known]

/-- Steps 4 to 6 judge a frame with a code of the table and a whole count byte. -/
theorem judge_counted {n : Byte} {p : List Byte} {counts : List Nat} (spelt : f.bytes = code :: n :: p)
    (known : countsOf code.toNat = some counts) :
    judge f = judgeCount code.toNat n.toNat counts p (f.bits.length % 8) := by
  simp [judge, taken, spelt, known, Frame.tail]

end Judged

/-- Step 4: a count above 40, or one that the command does not take. -/
theorem judgeCount_badCount {code n : Nat} {counts : List Nat} (bad : 40 < n ∨ n ∉ counts) (p : List Byte)
    (tail : Nat) : judgeCount code n counts p tail = .length :=
  if_pos (by simpa using bad)

/-- Step 5: a command frame whose parameter bytes are not as many as its count, or end in a part byte. -/
theorem judgeCount_badLength {code n tail : Nat} {p : List Byte} (fetch : code ≠ 1) (attention : code ≠ 2)
    (bad : p.length ≠ n ∨ tail ≠ 0) (counts : List Nat) : judgeCount code n counts p tail = .length := by
  have cut : (decide (p.length ≠ n) || decide (tail ≠ 0)) = true := by simpa using bad
  rw [judgeCount, if_neg fetch, if_neg attention, if_pos cut, ite_self]

end Sys2Proof

namespace Sys2Proof.Machine

/-! ## What a judgement leads to (R181, R182) -/

section Taken

variable {s : State} {f : Frame} (port : s.portOpen = true) (taken : f.taken = true)
include port taken

theorem execUnknownCommand_ignored (judged : judge f = .ignored) :
    execUnknownCommand f s = .next { s with sdo := .low } := by
  simp [execUnknownCommand, port, taken, judged]

theorem execUnknownCommand_unknown (judged : judge f = .unknown) :
    execUnknownCommand f s = .next { s with sdo := .low, result := ⟨.unknown, []⟩ } := by
  simp [execUnknownCommand, port, taken, judged, State.answer]

theorem execUnknownCommand_length (judged : judge f = .length) :
    execUnknownCommand f s = .next { s with sdo := .low, result := ⟨.length, []⟩ } := by
  simp [execUnknownCommand, port, taken, judged, State.answer]

theorem execUnknownCommand_carryOut {c : Instr} (judged : judge f = .carryOut c) :
    execUnknownCommand f s = carryOut c s := by
  simp [execUnknownCommand, port, taken, judged]

end Taken

/-- Settles O7: each finding of R181 and what it leads to. -/
theorem improperFramesAreIgnoredOrRefused : Obligations.ImproperFramesAreIgnoredOrRefused := by
  refine ⟨fun code => countsOf_isSome_iff code.toNat, fun s port =>
    ⟨fun bits short => ?noByte, fun _ => rfl, fun f code rest taken spelt undefined => ?undefined,
      fun f code counts taken spelt known => ?noCount, fun f code n p counts taken spelt known bad => ?bad⟩⟩
  case noByte => exact execUnknownCommand_ignored port rfl (judge_of_length_lt short)
  case undefined => exact execUnknownCommand_unknown port taken (judge_unknown taken spelt undefined)
  case noCount => exact execUnknownCommand_length port taken (judge_noCount taken spelt known)
  case bad =>
    refine execUnknownCommand_length port taken ((judge_counted taken spelt known).trans ?_)
    rcases bad with above | untaken | ⟨fetch, attention, parameters⟩
    · exact judgeCount_badCount (.inl above) p _
    · exact judgeCount_badCount (.inr untaken) p _
    · exact judgeCount_badLength fetch attention parameters counts

/-! ## A whole frame (R181, step 6) -/

/-- A frame is written for the command frames and the two reading frames. -/
theorem frameOf_cases {c : Instr} {f : Frame} (h : frameOf c = some f) :
    (∃ n, c = .fetchResult n) ∨ (∃ n, c = .readAttention n) ∨ (wire c).isSome = true := by
  unfold frameOf at h
  split at h
  case h_1 n => exact .inl ⟨n, rfl⟩
  case h_2 n => exact .inr (.inl ⟨n, rfl⟩)
  case h_3 =>
    obtain ⟨_, spelt, _⟩ := Option.map_eq_some_iff.mp h
    exact .inr (.inr (Option.isSome_of_eq_some spelt))

/-- A command frame is carried out as its own row. -/
theorem carryOut_command (s : State) {c : Instr} (command : (wire c).isSome = true) :
    carryOut c s = exec c s := by
  rcases carryOut_cases c s with ⟨_, own⟩ | ⟨none, _⟩
  · exact own
  · rw [none] at command
    cases command

/-- A whole frame other than Read Attention's has the effect of its command's row, in a closed port too. -/
theorem execUnknownCommand_frameOf (s : State) {c : Instr} {f : Frame} (wf : c.wf = true)
    (h : frameOf c = some f) (other : ∀ n, c ≠ .readAttention n) : execUnknownCommand f s = exec c s := by
  obtain ⟨taken, judged⟩ := judge_frameOf wf h
  cases port : s.portOpen with
  | true =>
    rw [execUnknownCommand_carryOut port taken judged]
    rcases frameOf_cases h with ⟨n, rfl⟩ | ⟨n, rfl⟩ | command
    · rfl
    · exact absurd rfl (other n)
    · exact carryOut_command s command
  | false =>
    rw [execUnknownCommand_closed port f]
    rcases frameOf_cases h with ⟨n, rfl⟩ | ⟨n, rfl⟩ | command
    · exact (execFetchResult_closed port n).symm
    · exact absurd rfl (other n)
    · exact (exec_command_closed port command).symm

/-- Read Attention's frame reads the snapshot that is held, or takes its own (log 9). -/
theorem readAttentionFrame_open {s : State} (port : s.portOpen = true) (n : Nat) :
    readAttentionFrame n s = execReadAttention n
      (if s.snapshot.isSome then s else { s with snapshot := some ⟨s.flags, 0⟩ }) := by
  rw [readAttentionFrame, execSnapshot_open port, apply_ite (execReadAttention n)]

/-- Settles O9: the frame is judged its command, which is carried out as its row. -/
theorem aFrameCarriesOutItsCommand : Obligations.AFrameCarriesOutItsCommand := by
  refine ⟨fun c f s wf h other => execUnknownCommand_frameOf s wf h other, fun n f s h port => ?_⟩
  obtain ⟨taken, judged⟩ := judge_frameOf rfl h
  exact (execUnknownCommand_carryOut port taken judged).trans (readAttentionFrame_open port n)

/-! ## The step -/

/-- Settles O1, by the definition of the step. -/
theorem stepRunsTheFrontCommand : Obligations.StepRunsTheFrontCommand := fun _ _ _ => rfl

end Sys2Proof.Machine
end
